-- ==== Sys2Proof/Word.lean ====
section
/-! DEFINITION. The widths of the N428's words: record tags, versions, station IDs, bytes. -/

namespace Sys2Proof

/-- One byte of the host port or of a record's value. -/
abbrev Byte := BitVec 8

/-- A record's 12-bit name (R4): record tags lie in 0x001 to 0xFFE. -/
abbrev Tag := BitVec 12

/-- A record's version number (R5): 1 to 65535 in every table entry. -/
abbrev Version := BitVec 16

/-- A station ID, 0 to 15; also the origin of a record version. -/
abbrev StationId := BitVec 4

end Sys2Proof
end

