-- ==== Sys2Proof/Syntax.lean ====
section
/-! DEFINITION. The commands of the N428: one constructor for each row of spec/opcode_table.json. -/

namespace Sys2Proof

/-- The two lines of the share bus (03, 3.1). -/
inductive Line where
  | bck
  | bda
  deriving DecidableEq, Repr

/-- The commands. A host request carries the bytes shifted in after its command code (Table 87); its event is
the SEL rise of the transaction that carried it (R169). A line command carries what the line shows. -/
inductive Instr where
  /-- TRANSACTION_BEGIN: SEL falls (R168). With `empty` true, SEL has risen again with no whole byte shifted in: it ends the
  transaction begun, or is such a transaction from its fall to its rise (log entry 22). -/
  | transactionBegin (empty : Bool := false)
  /-- READ, code 0x01 (R17). -/
  | read (args : List Byte)
  /-- NEXT, code 0x02 (R18). -/
  | nextTag (args : List Byte)
  /-- WRITE, code 0x03 (R8). -/
  | write (args : List Byte)
  /-- WATCH, code 0x04 (R19). -/
  | watch (args : List Byte)
  /-- STATUS, code 0x05 (R171). -/
  | status (args : List Byte)
  /-- PEERS, code 0x06 (R117). -/
  | peers (args : List Byte)
  /-- NOTICE, code 0x07 (R180). -/
  | notice (args : List Byte)
  /-- QUIESCE, code 0x08 (R161). -/
  | quiesce (args : List Byte)
  /-- RESUME, code 0x09 (R162). -/
  | resume (args : List Byte)
  /-- CONFIG READ, code 0x0A (R171). -/
  | configRead (args : List Byte)
  /-- CONFIG WRITE, code 0x0B (R173). -/
  | configWrite (args : List Byte)
  /-- WIPE, code 0x0C (R173). -/
  | wipe (args : List Byte)
  /-- RESTART, code 0x0D (R175). -/
  | restart (args : List Byte)
  /-- FETCH, code 0x80: a whole fetch transaction in which the host clocks `clocked` bytes after the status byte (R170). -/
  | fetch (clocked : Nat)
  /-- QUIET_GAP: both lines have been high for 10 bit times (R44). -/
  | quietGap
  /-- IDLE_LOST: a low on `line` that is no opening mark (R44). -/
  | idleLost (line : Line)
  /-- RIGHT_TO_OPEN: the quiet count allows an opening (R45). -/
  | rightToOpen
  /-- OPENING_MARK: another station pulls BDA low, or this station's own opening mark falls, while BCK is high (R46). While BCK
  is low the same fall of BDA is a change of data and no mark (log entry 20). -/
  | openingMark
  /-- ARBITRATION_LOSS: a rise of BCK with BDA low where the header placed 1 (R73). -/
  | arbitrationLoss
  /-- LATE_LOSS: a rise of BCK with BDA low where descriptor, body or check code placed 1 (R74). -/
  | lateLoss
  /-- LATE_LOSS_CONFIRMED: a late loss meets a good check code (R75, R76). -/
  | lateLossConfirmed
  /-- PUBLISH_FRAME: the decision on a received PUBLISH frame (R24). -/
  | publishFrame
  /-- BEACON_FRAME: the decision on a received BEACON frame (R107). -/
  | beaconFrame
  /-- DIGEST_FRAME: the decision on a received DIGEST frame (R125). -/
  | digestFrame
  /-- PULL_FRAME: the decision on a received PULL frame (R130). -/
  | pullFrame
  /-- VOTE_OUTCOME: a transmitter takes the REJECT slot, which reads high when `level` is true (R85). -/
  | voteOutcome (level : Bool)
  /-- END_MARK: BDA rises while BCK is high (R47). While BCK is low the same rise of BDA is a change of data and no mark (log
  entry 20). -/
  | endMark
  /-- HOLD_LIMIT: BCK has stayed low for more than 48 bit times (R50). -/
  | holdLimit
  /-- FRAME_BROKEN: BCK has stayed high for more than 4 bit times at a receiver (R52). -/
  | frameBroken
  /-- STUCK_LIMIT: `line` has stayed low for 2048 bit times (R53). -/
  | stuckLimit (line : Line)
  /-- RECOVERY: both lines have stayed high for 64 bit times while STUCK (R54). -/
  | recovery
  /-- DUPLICATE_ID: Station Control takes that report (R159). -/
  | duplicateId
  /-- BUS_STUCK: Station Control takes that report (R159). -/
  | busStuck
  /-- BUS_RECOVERED: Station Control takes that report (R159). -/
  | busRecovered
  /-- JOIN_COMPLETE: Station Control takes that report (R159). -/
  | joinComplete
  /-- QUIESCE_COMPLETE: Station Control takes the report that the station's part in a frame has ended (R161). -/
  | quiesceComplete
  /-- POWER_UP: the supply rises from off; PFAIL reads asserted when `pfail` is true (R157, R163). -/
  | powerUp (pfail : Bool)
  /-- RESET_ASSERT: RESET is asserted, for 10 microseconds or more when `lasting` is true (R157, R167). -/
  | resetAssert (lasting : Bool)
  /-- RESET_RELEASE: RESET is released (R158). -/
  | resetRelease
  /-- START_SEQUENCE: the start reads the configuration, loads, and begins the incarnation write (R158). -/
  | startSequence
  /-- SUPPLY_LOW: PFAIL is asserted, and has been for 100 microseconds when `lasting` is true (R163); when it is false the
  assertion begins (log entry 47). -/
  | supplyLow (lasting : Bool := true)
  /-- SUPPLY_GOOD: PFAIL is released, and has been for 100 microseconds when `lasting` is true (R163); when it is false the
  release begins (log entry 47). -/
  | supplyGood (lasting : Bool := true)
  /-- BEACON_TIMER: the beacon timer reaches the own period (R113). -/
  | beaconTimer
  /-- SILENCE_TIMEOUT: the silence timer of `station` reaches three declared periods (R110). -/
  | silenceTimeout (station : StationId)
  /-- LISTEN_WINDOW_END: the listen timer reaches two own periods (R120). -/
  | listenWindowEnd
  /-- SETTLE_ELAPSED: the settle timer reaches one own period (R131). -/
  | settleElapsed
  /-- NEXT_ASK_DUE: the next-ask time of `tag` comes with its asks below 3 (R127). -/
  | nextAskDue (tag : Tag)
  /-- PULL_UNANSWERED: the next-ask time of `tag` comes with its asks at 3 (R127). -/
  | pullUnanswered (tag : Tag)
  /-- COMMIT_START: the write engine takes the head of the Commit Queue (R142). -/
  | commitStart
  /-- CONFIG_WRITE_START: the write engine takes the pending CONFIG WRITE (R147). -/
  | configWriteStart
  /-- WIPE_START: the write engine takes the pending WIPE (R148). -/
  | wipeStart
  /-- WRITE_DONE: the array reports write-done. `current` is false when the report is for a write that was stopped
  or abandoned (R144, R149); `good` says whether the verify read gives what was to be written (R144, R148). -/
  | writeDone (current good : Bool)
  /-- WRITE_LIMIT: the write limit timer reaches 12 ms (R144). -/
  | writeLimit
  /-- BIT_TAKEN: BCK rises and the other stations leave BDA high when `level` is true (R43). -/
  | bitTaken (level : Bool)
  /-- BCK_FALL: BCK falls (R42). While BCK is low already, another station pulls it too (log entry 20). -/
  | bckFall
  /-- CLOCK_HALF_END: the transmitter's half-bit timer ends (R42), and it releases BCK or pulls it low. -/
  | clockHalfEnd
  /-- NOT_A_COMMAND_CODE: a request whose first byte is neither FETCH nor a code of Table 87 (R169). -/
  | notACommandCode (code : Byte) (args : List Byte)
  deriving DecidableEq, Repr

end Sys2Proof
end

