-- ==== Sys2Proof/WellFormed.lean ====
section
/-! DEFINITION. Which command terms stand for a command that can be sent. -/

namespace Sys2Proof

/-- Whether a byte is the FETCH code or a command code of Table 87. -/
def isPortCode (code : Byte) : Bool :=
  code == 0x80#8 || (1 ≤ code.toNat && code.toNat ≤ 13)

/-- Whether a tag is a record tag, 0x001 to 0xFFE (R4). -/
def isRecordTag (tag : Tag) : Bool :=
  tag != 0#12 && tag != 0xFFF#12

/-- A command term is well formed when its operands fit the row: NOT_A_COMMAND_CODE carries a code that is
none (R169), and the two commands of a Wanted Set entry name a record tag (Table 63). -/
def Instr.wellFormed : Instr → Bool
  | .notACommandCode code _ => !isPortCode code
  | .nextAskDue tag => isRecordTag tag
  | .pullUnanswered tag => isRecordTag tag
  | .transactionBegin _ => true
  | .read _ => true
  | .nextTag _ => true
  | .write _ => true
  | .watch _ => true
  | .status _ => true
  | .peers _ => true
  | .notice _ => true
  | .quiesce _ => true
  | .resume _ => true
  | .configRead _ => true
  | .configWrite _ => true
  | .wipe _ => true
  | .restart _ => true
  | .fetch _ => true
  | .quietGap => true
  | .idleLost _ => true
  | .rightToOpen => true
  | .openingMark => true
  | .arbitrationLoss => true
  | .lateLoss => true
  | .lateLossConfirmed => true
  | .publishFrame => true
  | .beaconFrame => true
  | .digestFrame => true
  | .pullFrame => true
  | .voteOutcome _ => true
  | .endMark => true
  | .holdLimit => true
  | .frameBroken => true
  | .stuckLimit _ => true
  | .recovery => true
  | .duplicateId => true
  | .busStuck => true
  | .busRecovered => true
  | .joinComplete => true
  | .quiesceComplete => true
  | .powerUp _ => true
  | .resetAssert _ => true
  | .resetRelease => true
  | .startSequence => true
  | .supplyLow _ => true
  | .supplyGood _ => true
  | .beaconTimer => true
  | .silenceTimeout _ => true
  | .listenWindowEnd => true
  | .settleElapsed => true
  | .commitStart => true
  | .configWriteStart => true
  | .wipeStart => true
  | .writeDone _ _ => true
  | .writeLimit => true
  | .bitTaken _ => true
  | .bckFall => true
  | .clockHalfEnd => true

end Sys2Proof
end

