-- ==== Sys2Proof/Decode.lean ====
section
/-! DEFINITION. From bits to commands. The table gives no row any bits, so no word spells a command; the requests of the host
port have a byte layout of their own (Table 87), read and written here. -/

namespace Sys2Proof

/-- The command that a word spells by the table's bits: no row has any (log entry 3). -/
def decodeTableWord (_nbits _w : Nat) : Option Instr :=
  none

/-- Table 87, R169: the command of a transaction whose shifted-in bytes are those given: its first byte names it. FETCH is
followed by any number of bytes, of which only the count matters (R170). No bytes make no request (R168). -/
def requestOf : List Byte → Option Instr
  | [] => none
  | code :: args =>
    match code.toNat with
    | 0x01 => some (.read args)
    | 0x02 => some (.nextTag args)
    | 0x03 => some (.write args)
    | 0x04 => some (.watch args)
    | 0x05 => some (.status args)
    | 0x06 => some (.peers args)
    | 0x07 => some (.notice args)
    | 0x08 => some (.quiesce args)
    | 0x09 => some (.resume args)
    | 0x0A => some (.configRead args)
    | 0x0B => some (.configWrite args)
    | 0x0C => some (.wipe args)
    | 0x0D => some (.restart args)
    | 0x80 => some (.fetch args.length)
    | _ => some (.notACommandCode code args)

/-- Table 87: the bytes the host shifts in for a command of the port; none for a command that is no such transaction. The bytes
of a FETCH after its code are not used (R170); they are given as 0x00. -/
def requestBytes : Instr → Option (List Byte)
  | .read args => some (0x01#8 :: args)
  | .nextTag args => some (0x02#8 :: args)
  | .write args => some (0x03#8 :: args)
  | .watch args => some (0x04#8 :: args)
  | .status args => some (0x05#8 :: args)
  | .peers args => some (0x06#8 :: args)
  | .notice args => some (0x07#8 :: args)
  | .quiesce args => some (0x08#8 :: args)
  | .resume args => some (0x09#8 :: args)
  | .configRead args => some (0x0A#8 :: args)
  | .configWrite args => some (0x0B#8 :: args)
  | .wipe args => some (0x0C#8 :: args)
  | .restart args => some (0x0D#8 :: args)
  | .fetch clocked => some (0x80#8 :: List.replicate clocked 0x00#8)
  | .notACommandCode code args => some (code :: args)
  | .transactionBegin _ => none
  | .quietGap => none
  | .idleLost _ => none
  | .rightToOpen => none
  | .openingMark => none
  | .arbitrationLoss => none
  | .lateLoss => none
  | .lateLossConfirmed => none
  | .publishFrame => none
  | .beaconFrame => none
  | .digestFrame => none
  | .pullFrame => none
  | .voteOutcome _ => none
  | .endMark => none
  | .holdLimit => none
  | .frameBroken => none
  | .stuckLimit _ => none
  | .recovery => none
  | .duplicateId => none
  | .busStuck => none
  | .busRecovered => none
  | .joinComplete => none
  | .quiesceComplete => none
  | .powerUp _ => none
  | .resetAssert _ => none
  | .resetRelease => none
  | .startSequence => none
  | .supplyLow _ => none
  | .supplyGood _ => none
  | .beaconTimer => none
  | .silenceTimeout _ => none
  | .listenWindowEnd => none
  | .settleElapsed => none
  | .nextAskDue _ => none
  | .pullUnanswered _ => none
  | .commitStart => none
  | .configWriteStart => none
  | .wipeStart => none
  | .writeDone _ _ => none
  | .writeLimit => none
  | .bitTaken _ => none
  | .bckFall => none
  | .clockHalfEnd => none

end Sys2Proof
end

