-- ==== Sys2Proof/Config.lean ====
section
/-! DEFINITION. What the manual leaves open: free values, constants with no body. Each is applied to
`State.free`, a count the step advances, so that every use has a value of its own. -/

namespace Sys2Proof.Config

/-- DESIGN CHOICE, log entry 11: whether a slot whose write or erase was cut short reads ERASED (true) or
INVALID (false); R137 and R149 allow either. -/
opaque tornErased : Nat → Bool

/-- DESIGN CHOICE, log entry 12: the four fields, 15 bits in the order of Table 76, that a configuration area
left INVALID shows to CONFIG READ; R171 returns them as stored and no rule says what they are. -/
opaque tornConfig : Nat → BitVec 15

/-- DESIGN CHOICE, log entry 13: whether a RESET assertion shorter than 10 microseconds is taken (R167). -/
opaque shortResetTaken : Nat → Bool

end Sys2Proof.Config
end

