-- ==== Sys2Proof/Machine/Bits.lean ====
section
/-! DEFINITION. Bits, bytes and the check code: the helpers every layout uses. Bits are listed in the order they
are sent, most significant first (R57). -/

namespace Sys2Proof.Machine

/-- The bits of a field, most significant first (R57). -/
def msbBits (n : Nat) (v : BitVec n) : List Bool :=
  (List.range n).map fun i => v.getLsbD (n - 1 - i)

/-- The number that a list of bits spells, most significant first. -/
def bitsToNat (bits : List Bool) : Nat :=
  bits.foldl (fun acc b => 2 * acc + b.toNat) 0

/-- The field of width `n` that a list of bits spells. -/
def ofMsbBits (n : Nat) (bits : List Bool) : BitVec n :=
  BitVec.ofNat n (bitsToNat bits)

/-- Bytes as bits, first byte first (R57). -/
def bytesToBits (bytes : List Byte) : List Bool :=
  bytes.flatMap (msbBits 8)

/-- The whole bytes of a list of bits; bits after the last whole byte are dropped. -/
def bitsToBytes : List Bool → List Byte
  | b0 :: b1 :: b2 :: b3 :: b4 :: b5 :: b6 :: b7 :: rest =>
    ofMsbBits 8 [b0, b1, b2, b3, b4, b5, b6, b7] :: bitsToBytes rest
  | _ => []

/-- The field of `width` bits that starts at bit position `start` (positions count from 1, R57). -/
def fieldAt (bits : List Bool) (start width : Nat) : List Bool :=
  (bits.drop (start - 1)).take width

/-- A two-byte number, most significant byte first (R176). -/
def bytes16 (v : BitVec 16) : List Byte :=
  [v.extractLsb' 8 8, v.extractLsb' 0 8]

/-- A tag as it crosses the port: two bytes, the top 4 bits 0 (R176). -/
def tagBytes (tag : Tag) : List Byte :=
  bytes16 (tag.setWidth 16)

/-- Two bytes as a number, most significant byte first (R176). -/
def word16 (hi lo : Byte) : BitVec 16 :=
  hi ++ lo

/-- One byte from a flag. -/
def flagByte (b : Bool) : Byte :=
  if b then 1#8 else 0#8

/-- One step of the check code of R63: combine the top bit with the incoming bit, shift left, and combine with
0x1021 if that bit was 1. -/
def crcStep (reg : BitVec 16) (bit : Bool) : BitVec 16 :=
  if reg.msb ^^ bit then (reg <<< 1) ^^^ 0x1021#16 else reg <<< 1

/-- The check register after some bits, from a given value. -/
def crcFrom (reg : BitVec 16) (bits : List Bool) : BitVec 16 :=
  bits.foldl crcStep reg

/-- The check code of R63: the register starts at 0xFFFF and is sent as it stands. -/
def checkCode (bits : List Bool) : BitVec 16 :=
  crcFrom 0xFFFF#16 bits

end Sys2Proof.Machine
end

