-- ==== Sys2Proof/Machine/State.lean ====
section
/-! DEFINITION. The state of the N428, block by block, as plain data, and its value after reset.
Every time is counted in quanta of 0.25 microsecond (log entry 4). -/

namespace Sys2Proof.Machine

/-- The machine has no fault: no command stops it (INVENTORY, Faults). -/
inductive Fault : Type
  deriving DecidableEq, Repr

/-- Why a command has no meaning. -/
inductive Refusal where
  /-- Raised by `exec` for a row that has no meaning yet, by the row's mnemonic; safe. No arm raises it. -/
  | notModelled (mnemonic : String)
  deriving DecidableEq, Repr

/-! ### Records (Chapter 1) -/

/-- Table 4: who may write a record. -/
inductive RecordClass where
  | common
  | owned
  deriving DecidableEq, Repr

/-- Table 5: the record's standing in the retained store. -/
inductive StoreState where
  | none
  | clean
  | dirty
  | committing
  | failed
  | unstored
  deriving DecidableEq, Repr

/-- A record version's order pair (R3). -/
structure OrderPair where
  version : Version
  origin : StationId
  deriving DecidableEq, Repr

/-- Table 4: one Record Table entry. Its length is the length of its value (R1). -/
structure Entry where
  tag : Tag
  cls : RecordClass
  persistent : Bool
  owner : Option StationId
  pair : OrderPair
  value : List Byte
  watch : Bool
  storeState : StoreState
  unsent : Bool
  deriving DecidableEq, Repr

/-- The Record Table: its entries in ascending tag order and the running summary (R4, R6). -/
structure RecordTable where
  entries : List Entry
  summary : BitVec 16
  deriving DecidableEq, Repr

/-! ### Frames (Chapter 4) -/

/-- Table 29: the four frame kinds. -/
inductive FrameKind where
  | publish
  | pull
  | digest
  | beacon
  deriving DecidableEq, Repr

/-- Table 29: a header, decoded (rank and origin are the values, not their complements). -/
structure Header where
  kind : FrameKind
  key : BitVec 12
  rank : BitVec 16
  origin : StationId
  deriving DecidableEq, Repr

/-- The snapshot buffer's content (Table 40): the frame being sent and, for PUBLISH, the captured pair. -/
structure Snapshot where
  header : Header
  desc : BitVec 8
  body : List Bool
  check : BitVec 16
  captured : Option OrderPair
  deriving DecidableEq, Repr

/-- The receive buffer (Table 40): the bits taken, what has been decoded of them, the check register and result. -/
structure RxBuffer where
  bits : List Bool
  header : Option Header
  desc : Option (BitVec 8)
  bodyLen : Option Nat
  crc : BitVec 16
  good : Option Bool
  deriving DecidableEq, Repr

/-! ### Line Interface (Chapter 3) -/

/-- Table 22: the line condition. -/
inductive LineCond where
  | idle
  | frame
  | held
  | stuck
  deriving DecidableEq, Repr

/-- Table 21: the half of the bit the station is timing as a transmitter. -/
inductive ClockPhase where
  | none
  | low
  | high
  deriving DecidableEq, Repr

/-- The hold points of R49. -/
inductive HoldPoint where
  | none
  | lookup
  | decision
  deriving DecidableEq, Repr

/-- Table 21, with the drivers (true pulls low), the right to open, the level to be placed on BDA a quarter bit after the last
edge, the levels that the other stations leave the lines at (true is high), and the levels at the edges last taken. The levels
read are `LineIf.bck` and `LineIf.bda`. -/
structure LineIf where
  cond : LineCond
  frameOpen : Bool
  seenIdle : Bool
  yieldOwed : Bool
  quiet : Nat
  bckLow : Nat
  bdaLow : Nat
  bckHigh : Nat
  recovery : Nat
  phase : ClockPhase
  halfTimer : Option Nat
  othersBck : Bool
  othersBda : Bool
  bckSeen : Bool
  bdaSeen : Bool
  driveBck : Bool
  driveBda : Bool
  placing : Option Bool
  hold : HoldPoint
  right : Bool
  deriving DecidableEq, Repr

/-! ### Frame Engine (Chapter 5) -/

/-- Table 41: the transmit machine. -/
inductive TxMachine where
  | idle
  | waiting
  | contending
  | sending
  | voting
  | lostLate
  deriving DecidableEq, Repr

/-- Table 43: the receive machine. -/
inductive RxMachine where
  | hunt
  | header
  | body
  | check
  | vote
  | discard
  deriving DecidableEq, Repr

/-- Table 40: the station's role in the frame now open. -/
inductive Role where
  | none
  | transmitter
  | receiver
  deriving DecidableEq, Repr

/-- A receiver's vote. -/
inductive Vote where
  | accept
  | retry
  | reject
  deriving DecidableEq, Repr

/-- Table 44, and UNDELIVERED of R86: how an item ends. -/
inductive Outcome where
  | delivered
  | unheard
  | rejected
  | undelivered
  deriving DecidableEq, Repr

/-- Table 40, with whether the outcome is fixed (VOTING after the REJECT slot) and whether the decision point
has been reached without a decision yet. -/
structure FrameEngine where
  tx : TxMachine
  outcomeFixed : Bool
  rx : RxMachine
  role : Role
  snapshot : Option Snapshot
  buf : RxBuffer
  loss : Option Nat
  vote : Option Vote
  deciding : Bool
  deriving DecidableEq, Repr

/-! ### Send Queue (Chapter 6) -/

/-- Table 51: what an item will send. Only PUBLISH carries a tag and an again mark. -/
inductive Payload where
  | publish (tag : Tag) (again : Bool)
  | pull
  | digest
  | beacon
  deriving DecidableEq, Repr

/-- Table 51: a send item; `inFlight` is its state. -/
structure SendItem where
  payload : Payload
  inFlight : Bool
  attempts : Nat
  deriving DecidableEq, Repr

/-! ### Sync Unit (Chapters 7 and 8) -/

/-- Table 56: a Peer Roster entry. `timer` is absent while the silence timer is stopped. -/
structure PeerEntry where
  station : StationId
  silent : Bool
  incarnation : BitVec 8
  period : BitVec 8
  joining : Bool
  count : BitVec 8
  summary : BitVec 16
  timer : Option Nat
  deriving DecidableEq, Repr

/-- Table 63: a Wanted Set entry. `nextAsk` is a time of the model's clock. -/
structure WantedEntry where
  tag : Tag
  pair : OrderPair
  asks : Nat
  nextAsk : Nat
  deriving DecidableEq, Repr

/-- Table 61: progress of the digest run that the join waits for. -/
inductive JoinDigest where
  | notYet
  | running
  | done
  deriving DecidableEq, Repr

/-- R131: the settle timer. -/
inductive SettleTimer where
  | stopped
  | running (time : Nat)
  | elapsed
  deriving DecidableEq, Repr

/-- Tables 56 and 61, the beacon timer and the own incarnation copy (R113, R114). -/
structure SyncUnit where
  roster : List PeerEntry
  beaconTimer : Option Nat
  ownIncarnation : BitVec 8
  runActive : Bool
  cursor : Tag
  digestQueued : Bool
  rangeEnd : Option Tag
  wanted : List WantedEntry
  pullList : List Tag
  listen : Option Nat
  joinDigest : JoinDigest
  settle : SettleTimer
  joinReported : Bool
  deriving DecidableEq, Repr

/-! ### Retained Store (Chapter 9) -/

/-- Table 76: the action on supply loss. -/
inductive SupplyAction where
  | freeze
  | restart
  deriving DecidableEq, Repr

/-- Table 76: the fields of a configuration record, without its check code. -/
structure ConfigFields where
  station : StationId
  rate : BitVec 2
  period : BitVec 8
  action : SupplyAction
  deriving DecidableEq, Repr

/-- Table 68: a record slot copy. -/
structure SlotImage where
  tag : Tag
  cls : RecordClass
  owner : StationId
  pair : OrderPair
  length : BitVec 6
  value : List Byte
  check : BitVec 16
  deriving DecidableEq, Repr

/-- The content of a record slot: ERASED, a copy, other content (INVALID), or under write (log entry 27). -/
inductive SlotContent where
  | erased
  | copy (image : SlotImage)
  | torn
  | writing
  deriving DecidableEq, Repr

/-- The content of a station slot. -/
inductive StationSlot where
  | erased
  | copy (incarnation : BitVec 8) (check : BitVec 16)
  | torn
  | writing
  deriving DecidableEq, Repr

/-- The content of the configuration area; a torn area shows fields that no rule states (log entry 12). -/
inductive ConfigArea where
  | erased
  | holds (fields : ConfigFields) (check : BitVec 16)
  | torn (fields : ConfigFields)
  | writing
  deriving DecidableEq, Repr

/-- The two halves of a record pair or of the station pair. -/
inductive SlotName where
  | a
  | b
  deriving DecidableEq, Repr

/-- The two slots of a record pair. -/
structure PairSlots where
  a : SlotContent
  b : SlotContent
  deriving DecidableEq, Repr

/-- Table 67: the array. -/
structure RetainedArray where
  pairs : List PairSlots
  stationA : StationSlot
  stationB : StationSlot
  config : ConfigArea
  deriving DecidableEq, Repr

/-- R137: the condition of a slot. -/
inductive SlotCond where
  | erased
  | valid
  | invalid
  deriving DecidableEq, Repr

/-- Table 69: a pair map entry; its key, the pair, is its place in the list. A free pair has no tag. -/
structure PairMapEntry where
  tag : Option Tag
  condA : SlotCond
  condB : SlotCond
  newest : Option SlotName
  deriving DecidableEq, Repr

/-- R146: the operation the write engine carries; for a commit, Table 70. -/
inductive StoreOp where
  | commit (tag : Tag) (pair : Nat) (target : SlotName) (image : SlotImage) (changed : Bool)
  | configWrite (fields : ConfigFields)
  | wipe (pair : Nat) (allFreed : Bool)
  | incarnation (slot : SlotName) (value : BitVec 8)
  deriving DecidableEq, Repr

/-- The write engine: its operation, the failure count, the write limit timer, and whether its result is to be
discarded (R150). -/
structure WriteEngine where
  op : Option StoreOp
  failures : Nat
  timer : Nat
  discard : Bool
  deriving DecidableEq, Repr

/-- A CONFIG WRITE or WIPE accepted and not yet started (R146). -/
inductive StoreRequest where
  | configWrite (fields : ConfigFields)
  | wipe
  deriving DecidableEq, Repr

/-- The Retained Store. -/
structure RetainedStore where
  array : RetainedArray
  pairMap : List PairMapEntry
  commitQ : List Tag
  engine : WriteEngine
  request : Option StoreRequest
  repaired : Bool
  incarnation : BitVec 8
  deriving DecidableEq, Repr

/-! ### Host Port (Chapter 11) -/

/-- Table 81: the port state. -/
inductive PortState where
  | notReady
  | idle
  | working
  | ready
  deriving DecidableEq, Repr

/-- Table 88: result codes. -/
inductive ResultCode where
  | ok
  | notFound
  | notActive
  | notOwner
  | mismatch
  | tableFull
  | queueFull
  | stale
  | badArgument
  | notQuiesced
  | badConfig
  | frozen
  | storeFailed
  | exhausted
  deriving DecidableEq, Repr

/-- A response: a result code and its data bytes. -/
structure Response where
  code : ResultCode
  data : List Byte
  deriving DecidableEq, Repr

/-- Table 90: notice kinds. -/
inductive NoticeKind where
  | changed
  | overtaken
  | rejected
  | undelivered
  | diverged
  | tableFull
  | peerJoined
  | peerReturned
  | peerRestarted
  | peerLost
  | pullUnanswered
  | commitFailed
  | link
  | noticesLost
  deriving DecidableEq, Repr

/-- Table 91: reasons, of link states and of notices. -/
inductive Reason where
  | started
  | configInvalid
  | hostRequest
  | duplicateId
  | busStuck
  | busRecovered
  | joinComplete
  | supplyLow
  | supplyGood
  | attributes
  | owner
  | value
  | storeFull
  | verify
  | publish
  | pull
  | digest
  | beacon
  deriving DecidableEq, Repr

/-- A notice; the fields a kind does not carry are absent (11.5). -/
structure Notice where
  kind : NoticeKind
  tag : Option Tag
  station : Option StationId
  pair : Option OrderPair
  reason : Option Reason
  deriving DecidableEq, Repr

/-- Table 81, with ATTN, SEL, the status byte loaded at SEL fall and the bytes shifted out last. -/
structure HostPort where
  state : PortState
  overrun : Bool
  request : List Byte
  requestCount : Nat
  response : Option Response
  notices : List Notice
  attn : Bool
  sel : Bool
  statusByte : Byte
  shiftedOut : List Byte
  deriving DecidableEq, Repr

/-! ### Station Control (Chapter 10) -/

/-- Table 75: link states. -/
inductive LinkState where
  | start
  | quiesced
  | joining
  | active
  | faulted
  | frozen
  deriving DecidableEq, Repr

/-- Table 75: the state supply-good restores. -/
inductive ReturnState where
  | none
  | quiesced
  | joining
  deriving DecidableEq, Repr

/-- Table 75: the cause of the last entry to START. -/
inductive StartCause where
  | power
  | pin
  | command
  deriving DecidableEq, Repr

/-- Table 75: the supply watch. -/
inductive SupplyWatch where
  | good
  | low
  deriving DecidableEq, Repr

/-- Table 75. Config-valid is yes exactly when `config` is present (R156). -/
structure Control where
  link : LinkState
  reason : Reason
  returnState : ReturnState
  config : Option ConfigFields
  cause : StartCause
  watch : SupplyWatch
  filter : Nat
  quiesceWaiting : Bool
  deriving DecidableEq, Repr

/-- Reports raised by a block and not yet taken by Station Control (Table 24, R76, R83, R90, R132). -/
structure Reports where
  duplicateId : Bool
  busStuck : Bool
  busRecovered : Bool
  joinComplete : Bool
  partEnded : Bool
  deriving DecidableEq, Repr

/-! ### The station -/

/-- The whole station and the queue of commands that wait for it. -/
structure State where
  pending : List Instr
  now : Nat
  free : Nat
  resetPin : Bool
  pfailPin : Bool
  control : Control
  line : LineIf
  fe : FrameEngine
  table : RecordTable
  sendQ : List SendItem
  sync : SyncUnit
  store : RetainedStore
  port : HostPort
  reports : Reports
  deriving DecidableEq, Repr

/-! ### Initial values -/

/-- Table 21, column Initial; the other stations leave both lines high (log entry 2). -/
def LineIf.initial : LineIf where
  cond := .frame
  frameOpen := false
  seenIdle := false
  yieldOwed := false
  quiet := 0
  bckLow := 0
  bdaLow := 0
  bckHigh := 0
  recovery := 0
  phase := .none
  halfTimer := none
  othersBck := true
  othersBda := true
  bckSeen := true
  bdaSeen := true
  driveBck := false
  driveBda := false
  placing := none
  hold := .none
  right := false

/-- An empty receive buffer; the check register starts at 0xFFFF (R63, R79). -/
def RxBuffer.initial : RxBuffer where
  bits := []
  header := none
  desc := none
  bodyLen := none
  crc := 0xFFFF#16
  good := none

/-- Table 40, column Initial (R69). -/
def FrameEngine.initial : FrameEngine where
  tx := .idle
  outcomeFixed := false
  rx := .hunt
  role := .none
  snapshot := none
  buf := .initial
  loss := none
  vote := none
  deciding := false

/-- An empty table has summary 0 (R6). -/
def RecordTable.initial : RecordTable where
  entries := []
  summary := 0#16

/-- Table 61, column At start, with an empty roster and stopped timers (R116, R118); the own incarnation copy
is the one given. -/
def SyncUnit.initial (incarnation : BitVec 8) : SyncUnit where
  roster := []
  beaconTimer := none
  ownIncarnation := incarnation
  runActive := false
  cursor := 0x001#12
  digestQueued := false
  rangeEnd := none
  wanted := []
  pullList := []
  listen := none
  joinDigest := .notYet
  settle := .stopped
  joinReported := false

/-- The array of a new part: every slot ERASED (10.6, R155; DEDUCED, log entry 1). -/
def RetainedArray.newPart : RetainedArray where
  pairs := List.replicate 48 ⟨.erased, .erased⟩
  stationA := .erased
  stationB := .erased
  config := .erased

/-- A pair map entry of a free, erased pair (R148). -/
def PairMapEntry.free : PairMapEntry where
  tag := none
  condA := .erased
  condB := .erased
  newest := none

/-- The write engine with no operation. -/
def WriteEngine.initial : WriteEngine where
  op := none
  failures := 0
  timer := 0
  discard := false

/-- The store of a new part at its first power-up. -/
def RetainedStore.initial : RetainedStore where
  array := .newPart
  pairMap := List.replicate 48 .free
  commitQ := []
  engine := .initial
  request := none
  repaired := false
  incarnation := 0#8

/-- The port in START (R181), with SEL released (log entry 2). -/
def HostPort.initial : HostPort where
  state := .notReady
  overrun := false
  request := []
  requestCount := 0
  response := none
  notices := []
  attn := false
  sel := false
  statusByte := 0#8
  shiftedOut := []

/-- Station Control at power-up (R157); the reason and the configuration are log entry 2. -/
def Control.initial : Control where
  link := .start
  reason := .started
  returnState := .none
  config := none
  cause := .power
  watch := .good
  filter := 0
  quiesceWaiting := false

/-- No report raised. -/
def Reports.none : Reports where
  duplicateId := false
  busStuck := false
  busRecovered := false
  joinComplete := false
  partEnded := false

/-- The station right after the power-up entry to START of a new part, with PFAIL and RESET released
(R157; log entries 1 and 2). No command waits. -/
def State.reset : State where
  pending := []
  now := 0
  free := 0
  resetPin := false
  pfailPin := false
  control := .initial
  line := .initial
  fe := .initial
  table := .initial
  sendQ := []
  sync := .initial 0#8
  store := .initial
  port := .initial
  reports := .none

end Sys2Proof.Machine
end

