-- ==== Sys2Proof/Machine/Limits.lean ====
section
/-! DEFINITION. The capacities and the times of the N428. Times are in quanta of 0.25 microsecond, the largest
unit of which every time of the spec is a whole multiple (log entry 4). -/

namespace Sys2Proof.Machine

/-- R4: the Record Table's capacity. -/
def maxEntries : Nat := 96
/-- R12, Table 67: record pairs, and store places. -/
def maxPlaces : Nat := 48
/-- R91: the Send Queue's capacity. -/
def maxItems : Nat := 16
/-- R106: the Peer Roster's capacity. -/
def maxPeers : Nat := 15
/-- R126: the Wanted Set's capacity. -/
def maxWanted : Nat := 16
/-- R61, R128: entries of one DIGEST and tags of one PULL. -/
def maxListed : Nat := 8
/-- R177: the Notice Queue's capacity. -/
def maxNotices : Nat := 32
/-- R86: attempts an item has. -/
def maxAttempts : Nat := 4
/-- R127: PULL frames that may list an entry. -/
def maxAsks : Nat := 3
/-- R1, R8: the longest value. -/
def maxLength : Nat := 32
/-- R168: bytes of a request the port keeps. -/
def maxRequest : Nat := 38

/-- One microsecond. -/
def microsecond : Nat := 4
/-- One millisecond. -/
def millisecond : Nat := 4000
/-- R144: the write limit, 12 ms. -/
def writeLimitTime : Nat := 12 * millisecond
/-- R163: the filter of PFAIL, 100 microseconds. -/
def filterTime : Nat := 100 * microsecond

/-- Table 20: one bit time by the rate code: 10, 4, 2 or 1 microseconds. -/
def bitTime (rate : BitVec 2) : Nat :=
  match rate.toNat with
  | 0 => 10 * microsecond
  | 1 => 4 * microsecond
  | 2 => 2 * microsecond
  | _ => 1 * microsecond

/-- The bit time of the configuration in force (R40). With none in force the lines are not tracked (R41). -/
def Control.bitTime (c : Control) : Nat :=
  match c.config with
  | some f => Sys2Proof.Machine.bitTime f.rate
  | none => Sys2Proof.Machine.bitTime 0#2

/-- The own beacon period of the configuration in force (R113, R118). -/
def Control.ownPeriod (c : Control) : Nat :=
  match c.config with
  | some f => f.period.toNat * millisecond
  | none => 0

/-- The own station ID (R156). A station with no configuration in force uses none. -/
def Control.ownId (c : Control) : StationId :=
  match c.config with
  | some f => f.station
  | none => 0#4

/-- Config-valid (R156). -/
def Control.configValid (c : Control) : Bool :=
  c.config.isSome

/-- R44: the quiet gap. -/
def State.quietGapTime (s : State) : Nat := 10 * s.control.bitTime
/-- R45: the quiet count that gives the right to open, 10 bit times or, with the yield owed, 16. -/
def State.openTime (s : State) : Nat :=
  if s.line.yieldOwed then 16 * s.control.bitTime else 10 * s.control.bitTime
/-- R50: the hold limit. -/
def State.holdTime (s : State) : Nat := 48 * s.control.bitTime
/-- R52: the broken-frame limit. -/
def State.brokenTime (s : State) : Nat := 4 * s.control.bitTime
/-- R53: the stuck limit. -/
def State.stuckTime (s : State) : Nat := 2048 * s.control.bitTime
/-- R54: the recovery time. -/
def State.recoveryTime (s : State) : Nat := 64 * s.control.bitTime
/-- R42: half a bit time. -/
def State.halfBit (s : State) : Nat := s.control.bitTime / 2
/-- R43: a quarter of a bit time. -/
def State.quarterBit (s : State) : Nat := s.control.bitTime / 4

end Sys2Proof.Machine
end

