-- ==== Sys2Proof/Machine/Flags.lean ====
section
/-! DEFINITION. The tests and figures the rules consult: record order, the summary, what a link state allows,
slot conditions, answers to claims. -/

namespace Sys2Proof.Machine

/-! ### Records -/

/-- R4: record tags are 0x001 to 0xFFE. -/
def recordTag (tag : Tag) : Bool :=
  tag != 0#12 && tag != 0xFFF#12

/-- R3: pair `p` is later than pair `q`. -/
def OrderPair.later (p q : OrderPair) : Bool :=
  q.version.toNat < p.version.toNat || (p.version == q.version && q.origin.toNat < p.origin.toNat)

/-- R6: an entry's term of the summary. -/
def Entry.term (e : Entry) : BitVec 16 :=
  e.tag.setWidth 16 + e.pair.version + e.pair.origin.setWidth 16

/-- The entry held for a tag. -/
def RecordTable.find (t : RecordTable) (tag : Tag) : Option Entry :=
  t.entries.find? fun e => e.tag == tag

/-- R6: the entry count, as the 8-bit figure of beacons and STATUS. -/
def RecordTable.count (t : RecordTable) : BitVec 8 :=
  BitVec.ofNat 8 t.entries.length

/-- R12: an entry holds a store place. -/
def Entry.holdsPlace (e : Entry) : Bool :=
  e.persistent && e.storeState != .unstored

/-- R12: a store place is free. -/
def RecordTable.placeFree (t : RecordTable) : Bool :=
  (t.entries.filter Entry.holdsPlace).length < maxPlaces

/-- Table 8: the store state after a change. `before` is absent for an entry just created. -/
def storeStateAfter (persistent placeFree : Bool) (before : Option StoreState) : StoreState :=
  if !persistent then .none else
  match before with
  | none => if placeFree then .dirty else .unstored
  | some .unstored => if placeFree then .dirty else .unstored
  | some .committing => .committing
  | some _ => .dirty

/-! ### Link state -/

/-- JOINING or ACTIVE: the station takes part in traffic. -/
def LinkState.onBus : LinkState → Bool
  | .joining => true
  | .active => true
  | _ => false

/-- The station is in JOINING or ACTIVE. -/
def State.onBus (s : State) : Bool :=
  s.control.link.onBus

/-- R55: the link states in which the Line Interface tracks the lines. -/
def State.tracks (s : State) : Bool :=
  match s.control.link with
  | .joining => true
  | .active => true
  | .faulted => true
  | .quiesced => s.control.configValid
  | .start => false
  | .frozen => false

/-- R142, R146: the link states in which the write engine takes commits and requests. -/
def LinkState.storeRuns : LinkState → Bool
  | .quiesced => true
  | .joining => true
  | .active => true
  | .faulted => true
  | .start => false
  | .frozen => false

/-- R90: the station has a part in a frame. -/
def State.hasPart (s : State) : Bool :=
  s.onBus && s.fe.role != .none && s.fe.rx != .discard

/-- R156, R164: the supply-low action taken. -/
def Control.action (c : Control) : SupplyAction :=
  match c.config with
  | some f => f.action
  | none => .freeze

/-- R158 step 1: what a start waits for has come. A start with cause POWER waits for the supply watch, every start
for RESET to be released and for the write engine to be free (log entry 24). -/
def State.startWaitEnded (s : State) : Bool :=
  !s.resetPin && s.store.engine.op.isNone &&
    (s.control.cause != .power || s.control.watch == .good)

/-! ### Send Queue -/

/-- R93: the answers to an append claim. -/
inductive AppendAnswer where
  | closed
  | present (inFlight : Bool)
  | full
  | placed
  deriving DecidableEq, Repr

/-- R93: two payloads are the same item: of one kind, and for PUBLISH of one tag. -/
def Payload.sameItem : Payload → Payload → Bool
  | .publish t _, .publish u _ => t == u
  | .pull, .pull => true
  | .digest, .digest => true
  | .beacon, .beacon => true
  | _, _ => false

/-- The queued item of a payload's kind, and for PUBLISH of its tag. -/
def findItem (q : List SendItem) (p : Payload) : Option SendItem :=
  q.find? fun it => it.payload.sameItem p

/-- R93: the answer to a claim to add an item. -/
def State.appendAnswer (s : State) (p : Payload) : AppendAnswer :=
  if !s.onBus then .closed else
  match findItem s.sendQ p with
  | some it => .present it.inFlight
  | none => if s.sendQ.length ≥ maxItems then .full else .placed

/-- R92, R91: a new item. -/
def SendItem.fresh (p : Payload) : SendItem :=
  ⟨p, false, 0⟩

/-- The kind of frame a payload will be. -/
def Payload.kind : Payload → FrameKind
  | .publish _ _ => .publish
  | .pull => .pull
  | .digest => .digest
  | .beacon => .beacon

/-! ### Sync Unit -/

/-- R127: an entry of the Wanted Set is due. -/
def WantedEntry.due (now : Nat) (w : WantedEntry) : Bool :=
  w.asks < maxAsks && w.nextAsk ≤ now

/-- R127: some entry is due. -/
def State.someDue (s : State) : Bool :=
  s.sync.wanted.any (WantedEntry.due s.now)

/-- R8 check 7: the tag stands in the Wanted Set. -/
def State.isWanted (s : State) (tag : Tag) : Bool :=
  s.sync.wanted.any fun w => w.tag == tag

/-- R132: a joining station is ready. -/
def State.ready (s : State) : Bool :=
  s.control.link == .joining && s.sync.joinDigest == .done && !s.sync.runActive &&
    s.sync.wanted.isEmpty && s.sync.settle == .elapsed

/-- R110: the silence timeout of a peer, three of its declared periods. -/
def PeerEntry.timeout (p : PeerEntry) : Nat :=
  3 * (p.period.toNat * millisecond)

/-! ### Retained Store -/

/-- R138: the check code of a record slot copy, over the header fields and the first `length` bytes. Table 68 gives the class
one bit and no codes. That 1 stands for OWNED, as in Tables 31, 87 and 89, is the model's reading (log entry 46, DEDUCED). -/
def SlotImage.code (i : SlotImage) : BitVec 16 :=
  checkCode (msbBits 12 i.tag ++ [i.cls == .owned] ++ msbBits 4 i.owner ++ msbBits 16 i.pair.version ++
    msbBits 4 i.pair.origin ++ msbBits 6 i.length ++ bytesToBits (i.value.take i.length.toNat))

/-- R137: the tests a record slot passes when it is VALID. -/
def SlotImage.valid (i : SlotImage) : Bool :=
  i.check == i.code && recordTag i.tag && i.pair.version != 0#16 && i.length.toNat ≤ maxLength

/-- R137: the condition of a record slot, as read. -/
def SlotContent.cond : SlotContent → SlotCond
  | .erased => .erased
  | .copy i => if i.valid then .valid else .invalid
  | .torn => .invalid
  | .writing => .invalid

/-- The copy a VALID slot holds. -/
def SlotContent.copy? : SlotContent → Option SlotImage
  | .copy i => if i.valid then some i else none
  | _ => none

/-- R138: the check code of a station slot copy. -/
def stationCode (incarnation : BitVec 8) : BitVec 16 :=
  checkCode (msbBits 8 incarnation)

/-- R137: the condition of a station slot. -/
def StationSlot.cond : StationSlot → SlotCond
  | .erased => .erased
  | .copy inc check => if check == stationCode inc then .valid else .invalid
  | .torn => .invalid
  | .writing => .invalid

/-- The incarnation a VALID station slot holds. -/
def StationSlot.value? : StationSlot → Option (BitVec 8)
  | .copy inc check => if check == stationCode inc then some inc else none
  | _ => none

/-- R155: the check code of a configuration record. -/
def ConfigFields.code (f : ConfigFields) : BitVec 16 :=
  checkCode (msbBits 4 f.station ++ msbBits 2 f.rate ++ msbBits 8 f.period ++ [f.action == .restart])

/-- R155: the configuration a valid area holds. -/
def ConfigArea.valid? : ConfigArea → Option ConfigFields
  | .holds f check => if check == f.code && f.period != 0#8 then some f else none
  | _ => none

/-- R171: the four fields as stored; 0 when the area is ERASED. -/
def ConfigArea.fields : ConfigArea → ConfigFields
  | .holds f _ => f
  | .torn f => f
  | .erased => ⟨0#4, 0#2, 0#8, .freeze⟩
  | .writing => ⟨0#4, 0#2, 0#8, .freeze⟩

/-- R139: the newest slot of a pair, from its conditions and copies; slot A on equal pairs. -/
def PairSlots.newest (p : PairSlots) : Option SlotName :=
  match p.a.copy?, p.b.copy? with
  | some a, some b => if b.pair.later a.pair then some .b else some .a
  | some _, none => some .a
  | none, some _ => some .b
  | none, none => none

/-- R151: the copy the load scan selects from a pair. -/
def PairSlots.selected (p : PairSlots) : Option SlotImage :=
  match p.newest with
  | some .a => p.a.copy?
  | some .b => p.b.copy?
  | none => none

/-- R152: the slot holding the newer station copy. -/
def RetainedArray.newerStation (m : RetainedArray) : Option SlotName :=
  match m.stationA.value?, m.stationB.value? with
  | some a, some b => if b == a + 1#8 then some .b else some .a
  | some _, none => some .a
  | none, some _ => some .b
  | none, none => none

/-- R152: the incarnation read; 0 when there is no newer copy. -/
def RetainedArray.incarnationRead (m : RetainedArray) : BitVec 8 :=
  match m.newerStation with
  | some .a => m.stationA.value?.getD 0#8
  | some .b => m.stationB.value?.getD 0#8
  | none => 0#8

/-- R152: the slot the incarnation write targets. -/
def RetainedArray.stationTarget (m : RetainedArray) : SlotName :=
  match m.newerStation with
  | some .a => .b
  | some .b => .a
  | none => .a

/-- R153: the load scan finds an INVALID slot. -/
def RetainedArray.anyInvalid (m : RetainedArray) : Bool :=
  m.pairs.any (fun p => p.a.cond == .invalid || p.b.cond == .invalid) ||
    m.stationA.cond == .invalid || m.stationB.cond == .invalid

/-- R140: the pair a commit of `tag` uses: the one assigned to it, or the lowest free one. -/
def pairFor (pairMap : List PairMapEntry) (tag : Tag) : Option Nat :=
  match pairMap.findIdx? (fun e => e.tag == some tag) with
  | some n => some n
  | none => pairMap.findIdx? (fun e => e.tag.isNone)

/-- R142 step 4: the target slot. -/
def PairMapEntry.target (e : PairMapEntry) : SlotName :=
  match e.newest with
  | some .a => .b
  | some .b => .a
  | none => .a

/-! ### Notices -/

/-- R177: the subject of a notice. -/
inductive Subject where
  | tag (t : Tag)
  | station (i : StationId)
  | reason (r : Option Reason)
  deriving DecidableEq, Repr

/-- R177: the tag if it carries one, otherwise the station, otherwise the reason. -/
def Notice.subject (n : Notice) : Subject :=
  match n.tag, n.station with
  | some t, _ => .tag t
  | none, some i => .station i
  | none, none => .reason n.reason

/-- R177: a posted notice coalesces with a queued one of its kind and subject, LINK excepted. -/
def Notice.coalesces (posted queued : Notice) : Bool :=
  posted.kind != .link && queued.kind == posted.kind && queued.subject == posted.subject

end Sys2Proof.Machine
end

