-- ==== Sys2Proof/Machine/Operands.lean ====
section
/-! DEFINITION. Every layout of the N428: frames as they are sent and as they are taken (Chapter 4), and the
requests, responses and notices of the host port (11.4). -/

namespace Sys2Proof.Machine

/-! ### Frames as they are sent -/

/-- Table 29: the code of a frame kind. -/
def FrameKind.bits : FrameKind → List Bool
  | .publish => [false, false]
  | .pull => [false, true]
  | .digest => [true, false]
  | .beacon => [true, true]

/-- R58: the 34 header bits; rank and origin are sent as their complements. -/
def Header.bits (h : Header) : List Bool :=
  h.kind.bits ++ msbBits 12 h.key ++ msbBits 16 (~~~h.rank) ++ msbBits 4 (~~~h.origin)

/-- R63: the bits the check code covers. -/
def coveredBits (h : Header) (desc : BitVec 8) (body : List Bool) : List Bool :=
  h.bits ++ msbBits 8 desc ++ body

/-- R71: a snapshot with its check code. -/
def mkSnapshot (h : Header) (desc : BitVec 8) (body : List Bool) (captured : Option OrderPair) : Snapshot :=
  ⟨h, desc, body, checkCode (coveredBits h desc body), captured⟩

/-- R57: the bits a transmitter places in positions 1 to 58 + B. -/
def Snapshot.wire (f : Snapshot) : List Bool :=
  coveredBits f.header f.desc f.body ++ msbBits 16 f.check

/-- R57, R72, R48, R47: the bit a transmitter places at a position: its frame, then 1 in the three vote slots, then
0 in the closing bit. -/
def Snapshot.bitAt (f : Snapshot) (position : Nat) : Bool :=
  if position ≤ 58 + f.body.length then f.wire.getD (position - 1) true
  else decide (position ≤ 61 + f.body.length)

/-- Table 31: the PUBLISH descriptor. -/
def publishDesc (cls : RecordClass) (persistent : Bool) (length : BitVec 6) : BitVec 8 :=
  ofMsbBits 8 ([cls == .owned, persistent] ++ msbBits 6 length)

/-- R59: the PUBLISH frame of an entry. -/
def publishSnapshot (e : Entry) : Snapshot :=
  mkSnapshot ⟨.publish, e.tag, e.pair.version, e.pair.origin⟩
    (publishDesc e.cls e.persistent (BitVec.ofNat 6 e.value.length)) (bytesToBits e.value) (some e.pair)

/-- R60: the PULL frame that lists some tags. -/
def pullSnapshot (own : StationId) (tags : List Tag) : Snapshot :=
  mkSnapshot ⟨.pull, tags.headD 0#12, 0#16, own⟩ (BitVec.ofNat 8 tags.length)
    (tags.flatMap fun t => msbBits 4 0#4 ++ msbBits 12 t) none

/-- R61: one entry of a DIGEST body. -/
structure Listed where
  tag : Tag
  pair : OrderPair
  deriving DecidableEq, Repr

/-- Table 33: the bits of one DIGEST entry. -/
def Listed.bits (l : Listed) : List Bool :=
  msbBits 12 l.tag ++ msbBits 4 l.pair.origin ++ msbBits 16 l.pair.version

/-- R61: the DIGEST frame over a range. -/
def digestSnapshotFrame (own : StationId) (start stop : Tag) (listed : List Listed) : Snapshot :=
  mkSnapshot ⟨.digest, start, stop.setWidth 16, own⟩ (BitVec.ofNat 8 listed.length)
    (listed.flatMap Listed.bits) none

/-- R62: the BEACON frame. -/
def beaconSnapshot (own : StationId) (incarnation period : BitVec 8) (joining : Bool) (count : BitVec 8)
    (summary : BitVec 16) : Snapshot :=
  mkSnapshot ⟨.beacon, 0xFFF#12, incarnation ++ period, own⟩ (if joining then 0x80#8 else 0x00#8)
    (msbBits 8 count ++ msbBits 16 summary) none

/-! ### Frames as they are taken -/

/-- Table 29: the kind that two bits spell. -/
def FrameKind.ofBits : List Bool → FrameKind
  | [false, false] => .publish
  | [false, true] => .pull
  | [true, false] => .digest
  | _ => .beacon

/-- R58: the header decoded from the first 34 bits. -/
def decodeHeader (bits : List Bool) : Header :=
  ⟨.ofBits (fieldAt bits 1 2), ofMsbBits 12 (fieldAt bits 3 12), ~~~(ofMsbBits 16 (fieldAt bits 15 16)),
    ~~~(ofMsbBits 4 (fieldAt bits 31 4))⟩

/-- R59 to R62, R65: the body length B, in bits, that a kind and a descriptor fix, in range or not. -/
def bodyLength (kind : FrameKind) (desc : BitVec 8) : Nat :=
  match kind with
  | .publish => 8 * (desc.extractLsb' 0 6).toNat
  | .pull => 16 * (desc.extractLsb' 0 4).toNat
  | .digest => 32 * (desc.extractLsb' 0 4).toNat
  | .beacon => 24

/-- The body bits of a receive buffer. -/
def RxBuffer.body (b : RxBuffer) : List Bool :=
  fieldAt b.bits 43 (b.bodyLen.getD 0)

/-- Table 36: a PUBLISH frame's content. -/
structure PublishContent where
  tag : Tag
  cls : RecordClass
  persistent : Bool
  pair : OrderPair
  length : Nat
  value : List Byte
  deriving DecidableEq, Repr

/-- Table 36, Table 31: the PUBLISH content of a header, a descriptor and body bits. -/
def publishContent (h : Header) (desc : BitVec 8) (body : List Bool) : PublishContent :=
  ⟨h.key, if desc.getLsbD 7 then .owned else .common, desc.getLsbD 6, ⟨h.rank, h.origin⟩,
    (desc.extractLsb' 0 6).toNat, bitsToBytes body⟩

/-- R26: a PUBLISH content is malformed. -/
def PublishContent.malformed (f : PublishContent) : Bool :=
  !recordTag f.tag || f.pair.version == 0#16 || maxLength < f.length || f.value.length != f.length

/-- The 16-bit words of a PULL body. -/
def pullWords : List Bool → Nat → List (BitVec 16)
  | _, 0 => []
  | bits, n + 1 => ofMsbBits 16 (bits.take 16) :: pullWords (bits.drop 16) n

/-- Table 36: a PULL frame's content. -/
structure PullContent where
  sender : StationId
  key : BitVec 12
  rank : BitVec 16
  unused : BitVec 4
  words : List (BitVec 16)
  deriving DecidableEq, Repr

/-- Table 32: the PULL content of a header, a descriptor and body bits. -/
def pullContent (h : Header) (desc : BitVec 8) (body : List Bool) : PullContent :=
  ⟨h.origin, h.key, h.rank, desc.extractLsb' 4 4, pullWords body (desc.extractLsb' 0 4).toNat⟩

/-- The tags a PULL lists. -/
def PullContent.tags (f : PullContent) : List Tag :=
  f.words.map fun w => w.extractLsb' 0 12

/-- A list of tags is strictly ascending. -/
def ascendingTags : List Tag → Bool
  | a :: b :: rest => decide (a.toNat < b.toNat) && ascendingTags (b :: rest)
  | _ => true

/-- Table 35: a PULL is well-formed. -/
def PullContent.wellFormed (f : PullContent) : Bool :=
  f.unused == 0#4 && decide (1 ≤ f.words.length) && decide (f.words.length ≤ maxListed) &&
    f.words.all (fun w => w.extractLsb' 12 4 == 0#4) && f.tags.all recordTag && ascendingTags f.tags &&
    f.tags.head? == some f.key && f.rank == 0#16

/-- The entries of a DIGEST body. -/
def digestEntries : List Bool → Nat → List Listed
  | _, 0 => []
  | bits, n + 1 =>
    ⟨ofMsbBits 12 (fieldAt bits 1 12), ⟨ofMsbBits 16 (fieldAt bits 17 16), ofMsbBits 4 (fieldAt bits 13 4)⟩⟩ ::
      digestEntries (bits.drop 32) n

/-- Table 36: a DIGEST frame's content; `stop16` is the rank, whose low 12 bits are the range end. -/
structure DigestContent where
  sender : StationId
  start : Tag
  stop16 : BitVec 16
  unused : BitVec 4
  listed : List Listed
  deriving DecidableEq, Repr

/-- Table 33: the DIGEST content of a header, a descriptor and body bits. -/
def digestContent (h : Header) (desc : BitVec 8) (body : List Bool) : DigestContent :=
  ⟨h.origin, h.key, h.rank, desc.extractLsb' 4 4, digestEntries body (desc.extractLsb' 0 4).toNat⟩

/-- The range end of a DIGEST. -/
def DigestContent.stop (f : DigestContent) : Tag :=
  f.stop16.extractLsb' 0 12

/-- Table 35: a DIGEST is well-formed. -/
def DigestContent.wellFormed (f : DigestContent) : Bool :=
  f.unused == 0#4 && decide (f.listed.length ≤ maxListed) && recordTag f.start &&
    f.stop16.extractLsb' 12 4 == 0#4 && recordTag f.stop && decide (f.start.toNat ≤ f.stop.toNat) &&
    ascendingTags (f.listed.map (·.tag)) &&
    f.listed.all (fun l => decide (f.start.toNat ≤ l.tag.toNat) && decide (l.tag.toNat ≤ f.stop.toNat)) &&
    f.listed.all (fun l => l.pair.version != 0#16)

/-- Table 36: a BEACON frame's content. -/
structure BeaconContent where
  sender : StationId
  key : BitVec 12
  incarnation : BitVec 8
  period : BitVec 8
  joining : Bool
  unused : BitVec 7
  count : BitVec 8
  summary : BitVec 16
  deriving DecidableEq, Repr

/-- Table 34: the BEACON content of a header, a descriptor and body bits. -/
def beaconContent (h : Header) (desc : BitVec 8) (body : List Bool) : BeaconContent :=
  ⟨h.origin, h.key, h.rank.extractLsb' 8 8, h.rank.extractLsb' 0 8, desc.getLsbD 7, desc.extractLsb' 0 7,
    ofMsbBits 8 (fieldAt body 1 8), ofMsbBits 16 (fieldAt body 9 16)⟩

/-- Table 35: a BEACON is well-formed. -/
def BeaconContent.wellFormed (f : BeaconContent) : Bool :=
  f.key == 0xFFF#12 && f.period != 0#8 && f.unused == 0#7 && decide (f.count.toNat ≤ maxEntries)

/-- Table 36: what a frame holds, by its kind. -/
inductive FrameContent where
  | publish (f : PublishContent)
  | pull (f : PullContent)
  | digest (f : DigestContent)
  | beacon (f : BeaconContent)
  deriving DecidableEq, Repr

/-- The content of a frame whose header and descriptor are in. -/
def frameContent (h : Header) (desc : BitVec 8) (body : List Bool) : FrameContent :=
  match h.kind with
  | .publish => .publish (publishContent h desc body)
  | .pull => .pull (pullContent h desc body)
  | .digest => .digest (digestContent h desc body)
  | .beacon => .beacon (beaconContent h desc body)

/-- The content of the frame in the receive buffer, once its header and descriptor are in. -/
def RxBuffer.content (b : RxBuffer) : Option FrameContent :=
  match b.header, b.desc with
  | some h, some d => some (frameContent h d b.body)
  | _, _ => none

/-- R66: the frame passes every test of Table 35 for its kind. -/
def FrameContent.wellFormed : FrameContent → Bool
  | .publish f => !f.malformed
  | .pull f => f.wellFormed
  | .digest f => f.wellFormed
  | .beacon f => f.wellFormed

/-- The sender a frame names; a PUBLISH frame names none (R58). -/
def FrameContent.sender? : FrameContent → Option StationId
  | .publish _ => none
  | .pull f => some f.sender
  | .digest f => some f.sender
  | .beacon f => some f.sender

/-! ### Requests of the host port (Table 87) -/

/-- Whether a byte is a command code of Table 87 or the FETCH code. -/
def portCode (code : Byte) : Bool :=
  code == 0x80#8 || (decide (1 ≤ code.toNat) && decide (code.toNat ≤ 13))

/-- The 16-bit tag argument of a request. -/
def argTag16 : List Byte → BitVec 16
  | hi :: lo :: _ => word16 hi lo
  | _ => 0#16

/-- R174: a tag argument that names a record tag; nonzero top bits name none. -/
def argRecordTag (args : List Byte) : Option Tag :=
  let w := argTag16 args
  if w.extractLsb' 12 4 == 0#4 && recordTag (w.extractLsb' 0 12) then some (w.extractLsb' 0 12) else none

/-- R18, R174: the tag argument of NEXT, 0x000 to 0xFFE. -/
def argNextTag (args : List Byte) : Option Tag :=
  let w := argTag16 args
  if w.extractLsb' 12 4 == 0#4 && w.extractLsb' 0 12 != 0xFFF#12 then some (w.extractLsb' 0 12) else none

/-- A WRITE request's arguments (Table 87). -/
structure WriteArgs where
  tag : Option Tag
  cls : Option RecordClass
  persistent : Option Bool
  value : List Byte
  deriving DecidableEq, Repr

/-- A flag byte: 0 or 1, nothing else. -/
def byteFlag (b : Byte) : Option Bool :=
  if b == 0#8 then some false else if b == 1#8 then some true else none

/-- Table 87: a WRITE's arguments, when the byte count is 6 plus the length byte (R169). -/
def parseWrite (args : List Byte) : Option WriteArgs :=
  match args with
  | t1 :: t0 :: c :: p :: n :: value =>
    if value.length == n.toNat then
      some ⟨argRecordTag [t1, t0], (byteFlag c).map (fun b => if b then .owned else .common), byteFlag p, value⟩
    else none
  | _ => none

/-- Table 87, R173: a CONFIG WRITE's fields, when all are in range. -/
def parseConfig : List Byte → Option ConfigFields
  | [id, rate, period, action] =>
    if id.toNat ≤ 15 && rate.toNat ≤ 3 && period != 0#8 then
      (byteFlag action).map fun a =>
        ⟨id.setWidth 4, rate.setWidth 2, period, if a then .restart else .freeze⟩
    else none
  | _ => none

/-! ### Codes and responses of the host port -/

/-- Table 86: the code of a port state. -/
def PortState.code : PortState → BitVec 2
  | .notReady => 0#2
  | .idle => 1#2
  | .working => 2#2
  | .ready => 3#2

/-- Table 86: the status byte as the port stands. -/
def HostPort.status (p : HostPort) : Byte :=
  (p.state.code ++ BitVec.ofBool p.overrun) ++ BitVec.ofBool (!p.notices.isEmpty) ++ 0#4

/-- Table 88. -/
def ResultCode.byte : ResultCode → Byte
  | .ok => 0x00#8
  | .notFound => 0x01#8
  | .notActive => 0x02#8
  | .notOwner => 0x03#8
  | .mismatch => 0x04#8
  | .tableFull => 0x05#8
  | .queueFull => 0x06#8
  | .stale => 0x07#8
  | .badArgument => 0x08#8
  | .notQuiesced => 0x09#8
  | .badConfig => 0x0A#8
  | .frozen => 0x0B#8
  | .storeFailed => 0x0C#8
  | .exhausted => 0x0D#8

/-- R170: the bytes of a response as a fetch shifts them out. -/
def Response.bytes (r : Response) : List Byte :=
  r.code.byte :: BitVec.ofNat 8 r.data.length :: r.data

/-- 11.4: the code of a link state. -/
def LinkState.byte : LinkState → Byte
  | .start => 0#8
  | .quiesced => 1#8
  | .joining => 2#8
  | .active => 3#8
  | .faulted => 4#8
  | .frozen => 5#8

/-- Table 91. -/
def Reason.byte : Reason → Byte
  | .started => 1#8
  | .configInvalid => 2#8
  | .hostRequest => 3#8
  | .duplicateId => 4#8
  | .busStuck => 5#8
  | .busRecovered => 6#8
  | .joinComplete => 7#8
  | .supplyLow => 8#8
  | .supplyGood => 9#8
  | .attributes => 10#8
  | .owner => 11#8
  | .value => 12#8
  | .storeFull => 13#8
  | .verify => 14#8
  | .publish => 16#8
  | .pull => 17#8
  | .digest => 18#8
  | .beacon => 19#8

/-- Table 89: the code of a start cause. -/
def StartCause.byte : StartCause → Byte
  | .power => 0#8
  | .pin => 1#8
  | .command => 2#8

/-- Table 89: the code of a store state. -/
def StoreState.byte : StoreState → Byte
  | .none => 0#8
  | .clean => 1#8
  | .dirty => 2#8
  | .committing => 3#8
  | .failed => 4#8
  | .unstored => 5#8

/-- Table 89: the code of a class. -/
def RecordClass.byte : RecordClass → Byte
  | .common => 0#8
  | .owned => 1#8

/-- Table 90: the code of a notice kind. -/
def NoticeKind.byte : NoticeKind → Byte
  | .changed => 0#8
  | .overtaken => 1#8
  | .rejected => 2#8
  | .undelivered => 3#8
  | .diverged => 4#8
  | .tableFull => 5#8
  | .peerJoined => 6#8
  | .peerReturned => 7#8
  | .peerRestarted => 8#8
  | .peerLost => 9#8
  | .pullUnanswered => 10#8
  | .commitFailed => 11#8
  | .link => 12#8
  | .noticesLost => 13#8

/-- Table 89: READ's data. -/
def Entry.readData (e : Entry) : List Byte :=
  tagBytes e.tag ++ [e.cls.byte, flagByte e.persistent] ++
    [match e.owner with | some o => o.setWidth 8 | none => 0xFF#8] ++
    bytes16 e.pair.version ++ [e.pair.origin.setWidth 8, flagByte e.watch, e.storeState.byte,
      BitVec.ofNat 8 e.value.length] ++ e.value

/-- Table 90: a notice's nine bytes. -/
def Notice.bytes (n : Notice) : List Byte :=
  [n.kind.byte,
    flagByte n.tag.isSome ||| (flagByte n.station.isSome <<< 1) ||| (flagByte n.pair.isSome <<< 2) |||
      (flagByte n.reason.isSome <<< 3)] ++
    tagBytes (n.tag.getD 0#12) ++ [(n.station.getD 0#4).setWidth 8] ++
    bytes16 ((n.pair.map (·.version)).getD 0#16) ++ [((n.pair.map (·.origin)).getD 0#4).setWidth 8] ++
    [(n.reason.map Reason.byte).getD 0#8]

/-- Table 89: one peer's bytes in PEERS. -/
def PeerEntry.bytes (p : PeerEntry) : List Byte :=
  [p.station.setWidth 8, flagByte p.silent ||| (flagByte p.joining <<< 1), p.incarnation, p.period, p.count] ++
    bytes16 p.summary

/-- Table 89: PEERS' data. -/
def rosterData (roster : List PeerEntry) : List Byte :=
  BitVec.ofNat 8 roster.length :: roster.flatMap PeerEntry.bytes

/-- Table 89: STATUS' data (R171). R171 lets figures of different blocks be of different moments. That the 14 bytes are of one
moment is the model's choice (log entry 49). -/
def State.statusData (s : State) : List Byte :=
  [s.control.link.byte, s.control.reason.byte, s.control.cause.byte, flagByte s.control.configValid,
    flagByte s.store.repaired,
    match s.control.config with | some f => f.station.setWidth 8 | none => 0xFF#8,
    s.store.incarnation, BitVec.ofNat 8 s.sendQ.length, BitVec.ofNat 8 s.sync.wanted.length,
    BitVec.ofNat 8 s.store.commitQ.length, BitVec.ofNat 8 s.port.notices.length, s.table.count] ++
    bytes16 s.table.summary

/-- Table 89: CONFIG READ's data (R171). -/
def ConfigArea.readData (a : ConfigArea) : List Byte :=
  [flagByte a.valid?.isSome, a.fields.station.setWidth 8, a.fields.rate.setWidth 8, a.fields.period,
    match a.fields.action with | .freeze => 0#8 | .restart => 1#8]

/-- Table 89: WRITE's data. -/
def OrderPair.writeData (p : OrderPair) : List Byte :=
  bytes16 p.version ++ [p.origin.setWidth 8]

end Sys2Proof.Machine
end

