-- ==== Sys2Proof/Machine/Ops.lean ====
section
/-! DEFINITION. The operations every family shares: one update per block, notices, the Send Queue, the Record
Table, the Sync Unit's claims, and answers of the host port. -/

namespace Sys2Proof.Machine

/-! ### One update per block -/

/-- The state with another Station Control. -/
def State.setControl (s : State) (x : Control) : State := { s with control := x }
/-- The state with another Line Interface. -/
def State.setLine (s : State) (x : LineIf) : State := { s with line := x }
/-- The state with another Frame Engine. -/
def State.setFe (s : State) (x : FrameEngine) : State := { s with fe := x }
/-- The state with another Record Table. -/
def State.setTable (s : State) (x : RecordTable) : State := { s with table := x }
/-- The state with another Send Queue. -/
def State.setSendQ (s : State) (x : List SendItem) : State := { s with sendQ := x }
/-- The state with another Sync Unit. -/
def State.setSync (s : State) (x : SyncUnit) : State := { s with sync := x }
/-- The state with another Retained Store. -/
def State.setStore (s : State) (x : RetainedStore) : State := { s with store := x }
/-- The state with another Host Port. -/
def State.setPort (s : State) (x : HostPort) : State := { s with port := x }
/-- The state with other outstanding reports. -/
def State.setReports (s : State) (x : Reports) : State := { s with reports := x }
/-- The state with `n` more free values used. -/
def State.useFree (s : State) (n : Nat) : State := { s with free := s.free + n }

/-! ### Notices (R177 to R179) -/

/-- NOTICES_LOST, which carries no field (R178). -/
def Notice.lost : Notice := ⟨.noticesLost, none, none, none, none⟩

/-- R178: NOTICES_LOST is the last entry. -/
def endsLost (q : List Notice) : Bool :=
  (q.getLast?.map (·.kind)) == some .noticesLost

/-- R177, R178: the queue after a post: coalesced, appended, or lost. -/
def postInto (q : List Notice) (n : Notice) : List Notice :=
  if q.any n.coalesces then
    q.map fun m => if n.coalesces m then { m with station := n.station, pair := n.pair, reason := n.reason } else m
  else if endsLost q then q
  else if q.length ≤ maxNotices - 2 then q ++ [n]
  else if q.length = maxNotices - 1 then q ++ [Notice.lost]
  else q

/-- The port with another Notice Queue; ATTN follows (R179). -/
def HostPort.setNotices (p : HostPort) (q : List Notice) : HostPort :=
  { p with notices := q, attn := !q.isEmpty }

/-- A post into the Notice Queue. -/
def State.post (s : State) (n : Notice) : State :=
  s.setPort (s.port.setNotices (postInto s.port.notices n))

/-- A notice about a record version. -/
def Notice.record (kind : NoticeKind) (tag : Tag) (pair : OrderPair) (reason : Option Reason) : Notice :=
  ⟨kind, some tag, none, some pair, reason⟩

/-- A notice about a peer (Table 58). -/
def Notice.peer (kind : NoticeKind) (station : StationId) : Notice :=
  ⟨kind, none, some station, none, none⟩

/-- COMMIT_FAILED for a tag, or for none (R13, R145, R152). -/
def Notice.commitFailed (tag : Option Tag) (reason : Reason) : Notice :=
  ⟨.commitFailed, tag, none, none, some reason⟩

/-- LINK with its reason (R159). -/
def Notice.link (reason : Reason) : Notice :=
  ⟨.link, none, none, none, some reason⟩

/-! ### Answers of the host port (R169) -/

/-- R169: the port places a result in the response buffer and becomes READY, if a request is in hand. -/
def State.answer (s : State) (code : ResultCode) (data : List Byte) : State :=
  if s.port.state = .working then s.setPort { s.port with state := .ready, response := some ⟨code, data⟩ } else s

/-! ### The Send Queue (R91 to R100) -/

/-- R92, R70: the transmit machine follows the queue's becoming empty or non-empty. -/
def TxMachine.follow (tx : TxMachine) (q : List SendItem) : TxMachine :=
  match tx with
  | .idle => if q.isEmpty then .idle else .waiting
  | .waiting => if q.isEmpty then .idle else .waiting
  | other => other

/-- The state with another Send Queue, of which the Frame Engine is told (R92). -/
def State.setQueue (s : State) (q : List SendItem) : State :=
  (s.setSendQ q).setFe { s.fe with tx := s.fe.tx.follow q }

/-- R92, R96: where a new item is placed: a BEACON at the head or directly behind an IN_FLIGHT head, every
other item at the tail. -/
def placeItem (q : List SendItem) (p : Payload) : List SendItem :=
  match p, q with
  | .beacon, head :: rest =>
    if head.inFlight then head :: SendItem.fresh .beacon :: rest else SendItem.fresh .beacon :: head :: rest
  | p, q => q ++ [SendItem.fresh p]

/-- R93: an append claim; only PLACED adds an item. -/
def State.append (s : State) (p : Payload) : State :=
  match s.appendAnswer p with
  | .placed => s.setQueue (placeItem s.sendQ p)
  | _ => s

/-- R94: a claim for a PUBLISH item by the table (a correction) or by the Sync Unit (a reply). -/
def State.claimPublish (s : State) (tag : Tag) : State :=
  s.append (.publish tag false)

/-- R11, R94: the again mark of an IN_FLIGHT PUBLISH item for the tag is set. -/
def markAgain (q : List SendItem) (tag : Tag) : List SendItem :=
  q.map fun it =>
    match it.payload with
    | .publish t _ => if t == tag && it.inFlight then { it with payload := .publish t true } else it
    | _ => it

/-- R11, Table 7: the Send Queue effect of an accepted WRITE. -/
def State.claimWritten (s : State) (tag : Tag) : State :=
  match s.appendAnswer (.publish tag false) with
  | .placed => s.setQueue (placeItem s.sendQ (.publish tag false))
  | .present true => s.setQueue (markAgain s.sendQ tag)
  | _ => s

/-- R100: suppression removes the PUBLISH item for the tag if it is WAITING. -/
def State.suppress (s : State) (tag : Tag) : State :=
  s.setQueue (s.sendQ.filter fun it => !(it.payload.sameItem (.publish tag false) && !it.inFlight))

/-! ### The Record Table (R4, R6, R13) -/

/-- R4: an entry takes its place in tag order, or replaces the one held for its tag. -/
def insertEntry (e : Entry) : List Entry → List Entry
  | [] => [e]
  | x :: rest =>
    if e.tag.toNat < x.tag.toNat then e :: x :: rest
    else if e.tag == x.tag then e :: rest
    else x :: insertEntry e rest

/-- R6: the term an entry for the tag has in the summary now. -/
def RecordTable.heldTerm (t : RecordTable) (tag : Tag) : BitVec 16 :=
  match t.find tag with
  | some e => e.term
  | none => 0#16

/-- R4, R6: the table with an entry put in; the summary replaces the old term with the new one. -/
def RecordTable.put (t : RecordTable) (e : Entry) : RecordTable :=
  ⟨insertEntry e t.entries, t.summary - t.heldTerm e.tag + e.term⟩

/-- R13: the Commit Queue appends a tag that is absent from it. -/
def queueCommit (q : List Tag) (tag : Tag) : List Tag :=
  if q.contains tag then q else q ++ [tag]

/-- R143: a report of R13 sets the changed mark of a commit of its record. -/
def WriteEngine.markChanged (g : WriteEngine) (tag : Tag) : WriteEngine :=
  match g.op with
  | some (.commit t pair target image changed) =>
    { g with op := some (.commit t pair target image (changed || t == tag)) }
  | _ => g

/-- R13: an entry is created or its pair changes: its store state is set, the Commit Queue appended and the
change reported. The COMMIT_FAILED notice of Table 8 is `State.noteUnstored`. -/
def State.changeEntry (s : State) (e : Entry) : State :=
  let after := storeStateAfter e.persistent s.table.placeFree ((s.table.find e.tag).map (·.storeState))
  let s1 := s.setTable (s.table.put { e with storeState := after })
  s1.setStore { s.store with
    commitQ := if after = .dirty then queueCommit s.store.commitQ e.tag else s.store.commitQ
    engine := s.store.engine.markChanged e.tag }

/-- R13, Table 8: a change that leaves the record UNSTORED posts COMMIT_FAILED, reason STORE_FULL. -/
def State.noteUnstored (s : State) (tag : Tag) : State :=
  match s.table.find tag with
  | some e => if e.storeState = .unstored then s.post (.commitFailed (some tag) .storeFull) else s
  | none => s

/-- A field of an entry other than its pair changes. -/
def State.modifyEntry (s : State) (tag : Tag) (f : Entry → Entry) : State :=
  match s.table.find tag with
  | some e => s.setTable (s.table.put (f e))
  | none => s

/-- The store state of the entry for a tag is set by the Retained Store. -/
def State.setStoreState (s : State) (tag : Tag) (st : StoreState) : State :=
  s.modifyEntry tag fun e => { e with storeState := st }

/-! ### The Sync Unit's claims -/

/-- R121: the claim for the run's DIGEST item, made while the run has none. -/
def State.claimDigest (s : State) : State :=
  if s.sync.runActive && !s.sync.digestQueued then
    match s.appendAnswer .digest with
    | .placed => (s.append .digest).setSync { s.sync with digestQueued := true }
    | .present _ => s.setSync { s.sync with digestQueued := true }
    | _ => s
  else s

/-- R127: the claim for a PULL item, made while some entry is due and none is queued. -/
def State.claimPull (s : State) : State :=
  if s.someDue then s.append .pull else s

/-- R121: a digest run is started; a start with a run already active has no effect. -/
def State.startRun (s : State) : State :=
  if s.sync.runActive then s else
    (s.setSync { s.sync with runActive := true, cursor := 0x001#12, rangeEnd := none }).claimDigest

/-- R132: at the step in which a joining station is ready, JOIN_COMPLETE is reported, once per stay in JOINING. -/
def State.testReady (s : State) : State :=
  if s.ready && !s.sync.joinReported then
    (s.setSync { s.sync with joinReported := true }).setReports { s.reports with joinComplete := true }
  else s

/-- R124: the digest run ends. -/
def State.endRun (s : State) : State :=
  (s.setSync { s.sync with
    runActive := false
    digestQueued := false
    settle := if s.control.link = .joining then .running 0 else s.sync.settle
    joinDigest := if s.sync.joinDigest = .running then .done else s.sync.joinDigest }).testReady

/-- R35: the Sync Unit takes an adoption report: it removes a satisfied entry (and its tag from the pull list) and
in JOINING restarts the settle timer (R131). -/
def State.adoptionReport (s : State) (tag : Tag) (held : OrderPair) : State :=
  let satisfied := fun (w : WantedEntry) => w.tag == tag && !(w.pair.later held)
  let removed := s.sync.wanted.any satisfied
  (s.setSync { s.sync with
    wanted := s.sync.wanted.filter fun w => !satisfied w
    pullList := if removed then s.sync.pullList.filter (fun t => t != tag) else s.sync.pullList
    settle := if s.control.link = .joining then .running 0 else s.sync.settle }).testReady

/-- R126: a wanted entry takes its place in tag order. -/
def insertWanted (w : WantedEntry) : List WantedEntry → List WantedEntry
  | [] => [w]
  | x :: rest => if w.tag.toNat < x.tag.toNat then w :: x :: rest else x :: insertWanted w rest

/-- R126: a tag and a listed pair enter the Wanted Set; a new entry is due at once and makes the PULL claim (R127). -/
def State.enterWanted (s : State) (tag : Tag) (pair : OrderPair) : State :=
  if s.isWanted tag then
    s.setSync { s.sync with
      wanted := s.sync.wanted.map fun w => if w.tag == tag && pair.later w.pair then { w with pair := pair } else w }
  else if s.sync.wanted.length < maxWanted then
    (s.setSync { s.sync with wanted := insertWanted ⟨tag, pair, 0, s.now⟩ s.sync.wanted }).claimPull
  else s

/-! ### The lines -/

/-- R39: the level of BCK read: low when this station or another drives it low. -/
def LineIf.bck (l : LineIf) : Bool :=
  l.othersBck && !l.driveBck

/-- R39: the level of BDA read. -/
def LineIf.bda (l : LineIf) : Bool :=
  l.othersBda && !l.driveBda

/-- R39, R44, R50, R52, R53, R54: the lines are read after a driver or another station's level changed: a count of a level
that a line no longer has is 0. -/
def LineIf.read (l : LineIf) : LineIf :=
  { l with
    quiet := if l.bck && l.bda then l.quiet else 0
    recovery := if l.bck && l.bda then l.recovery else 0
    bckLow := if l.bck then 0 else l.bckLow
    bdaLow := if l.bda then 0 else l.bdaLow
    bckHigh := if l.bck then l.bckHigh else 0 }

/-- This station pulls BCK low or lets it go. -/
def LineIf.setDriveBck (l : LineIf) (low : Bool) : LineIf :=
  ({ l with driveBck := low } : LineIf).read

/-- The lines are released and nothing is timed, held or placed (R42, R50, R53, R55). -/
def LineIf.release (l : LineIf) : LineIf :=
  ({ l with driveBck := false, driveBda := false, phase := .none, halfTimer := none, placing := none,
            hold := .none } : LineIf).read

/-- A level is placed on BDA (R43): driven low for a 0, released for a 1. -/
def LineIf.place (l : LineIf) (level : Bool) : LineIf :=
  ({ l with driveBda := !level, placing := none } : LineIf).read

/-- R41, R56: Table 21's initial values; the levels of the lines go on as the other stations leave them (log entry 42). -/
def LineIf.restart (l : LineIf) : LineIf :=
  { LineIf.initial with othersBck := l.othersBck, othersBda := l.othersBda, bckSeen := l.othersBck, bdaSeen := l.othersBda }

/-- What is due to be placed on BDA is placed (log entry 8). -/
def LineIf.settle (l : LineIf) : LineIf :=
  match l.placing with
  | some level => l.place level
  | none => l

/-- R90: the Frame Engine tells Station Control that the station stopped having a part in a frame. -/
def State.reportPartEnded (s : State) : State :=
  if s.hasPart then s.setReports { s.reports with partEnded := true } else s

end Sys2Proof.Machine
end

