-- ==== Sys2Proof/Machine/FrameOps.lean ====
section
/-! DEFINITION. What the Frame Engine does with the item it sends and the frame it takes (Chapter 5): opening,
return, attempt, completion, late loss, end of a frame, and the rise of BCK. -/

namespace Sys2Proof.Machine

/-! ### Where a frame stands -/

/-- Positions taken so far. -/
def RxBuffer.count (b : RxBuffer) : Nat :=
  b.bits.length

/-- The kind as decoded. -/
def RxBuffer.kind? (b : RxBuffer) : Option FrameKind :=
  b.header.map (·.kind)

/-- Positions of a frame whose body length is fixed: 58 + B, the last check bit (R57). -/
def RxBuffer.checkEnd (b : RxBuffer) : Option Nat :=
  b.bodyLen.map (58 + ·)

/-- The level taken in the `n`th vote slot, 1 to 3 (R48). -/
def RxBuffer.slot (b : RxBuffer) (n : Nat) : Bool :=
  b.bits.getD (57 + b.bodyLen.getD 0 + n) true

/-- The transmit machine has a frame whose outcome is still open (R86, R88). -/
def FrameEngine.outcomeOpen (f : FrameEngine) : Bool :=
  match f.tx with
  | .contending => true
  | .sending => true
  | .lostLate => true
  | .voting => !f.outcomeFixed
  | .idle => false
  | .waiting => false

/-- The transmit machine is in a frame. -/
def FrameEngine.inFrame (f : FrameEngine) : Bool :=
  match f.tx with
  | .contending => true
  | .sending => true
  | .lostLate => true
  | .voting => true
  | .idle => false
  | .waiting => false

/-- Table 42, "WAITING or IDLE": the transmit machine rests and the snapshot buffer is emptied (R69). The loss position stays
until the next opening mark (R69), or until R77 clears it. -/
def State.rest (s : State) : State :=
  s.setFe { s.fe with
    tx := if s.sendQ.isEmpty then .idle else .waiting
    outcomeFixed := false
    snapshot := none }

/-! ### Opening (R71) -/

/-- R20: the digest snapshot, entries at or beyond the cursor, in tag order. -/
def RecordTable.fromCursor (t : RecordTable) (cursor : Tag) : List Entry :=
  t.entries.filter fun e => decide (cursor.toNat ≤ e.tag.toNat)

/-- R20, R61: an entry as a DIGEST lists it. -/
def Entry.listed (e : Entry) : Listed :=
  ⟨e.tag, e.pair⟩

/-- R20: the entries a DIGEST of this cursor lists, up to eight. -/
def RecordTable.digestListed (t : RecordTable) (cursor : Tag) : List Listed :=
  ((t.fromCursor cursor).take maxListed).map Entry.listed

/-- R122: the range end: the eighth tag when a further entry lies beyond it, otherwise 0xFFE. -/
def RecordTable.rangeEnd (t : RecordTable) (cursor : Tag) : Tag :=
  if maxListed < (t.fromCursor cursor).length then
    ((t.digestListed cursor).getLast?.map (·.tag)).getD 0xFFE#12
  else 0xFFE#12

/-- R128: the tags a PULL lists: the due entries of lowest tag, up to eight. -/
def State.pullSelection (s : State) : List Tag :=
  ((s.sync.wanted.filter (WantedEntry.due s.now)).take maxListed).map (·.tag)

/-- R71: the frame of the head item opens: the item becomes IN_FLIGHT, the role TRANSMITTER, and BDA is driven low;
the right to open lapses with that low (R45). -/
def State.launch (s : State) (item : SendItem) (rest : List SendItem) (frame : Snapshot) : State :=
  ((s.setSendQ ({ item with inFlight := true } :: rest)).setFe
    { s.fe with tx := .contending, outcomeFixed := false, role := .transmitter, snapshot := some frame }).setLine
    ({ s.line with driveBda := true, right := false } : LineIf).read

/-- R71: the head item's content is taken and its frame opened. A PULL that lists nothing is not handled here
(`State.openHead`); a PUBLISH item's tag is always held (R20, log entry 31). -/
def State.openItem (s : State) (item : SendItem) (rest : List SendItem) : State :=
  match item.payload with
  | .publish tag _ =>
    match s.table.find tag with
    | some e => s.launch { item with payload := .publish tag false } rest (publishSnapshot e)
    | none => s
  | .digest =>
    let stop := s.table.rangeEnd s.sync.cursor
    (s.setSync { s.sync with rangeEnd := some stop }).launch item rest
      (digestSnapshotFrame s.control.ownId s.sync.cursor stop (s.table.digestListed s.sync.cursor))
  | .pull =>
    let tags := s.pullSelection
    (s.setSync { s.sync with
      pullList := tags
      wanted := s.sync.wanted.map fun w =>
        if tags.contains w.tag then { w with asks := w.asks + 1, nextAsk := s.now + s.control.ownPeriod } else w }).launch
      item rest (pullSnapshot s.control.ownId tags)
  | .beacon =>
    s.launch item rest (beaconSnapshot s.control.ownId s.sync.ownIncarnation
      ((s.control.config.map (·.period)).getD 0#8) (s.control.link == .joining) s.table.count s.table.summary)

/-- R71, R97, R129: a PULL head that lists no entry is removed unsent, and the right serves the next head. -/
def State.openHead (s : State) : State :=
  match s.sendQ with
  | [] => s
  | item :: rest =>
    if item.payload.kind = .pull && s.pullSelection.isEmpty then
      let s1 := (s.setQueue rest).claimPull
      match s1.sendQ with
      | [] => s1
      | next :: rest' => if next.payload.kind = .pull then s1 else s1.openItem next rest'
    else s.openItem item rest

/-! ### Return, attempt, completion (R86, R87, R98) -/

/-- R123, R129: the Sync Unit is told that the DIGEST or PULL item returned to waiting. -/
def State.toldReturned (s : State) (kind : FrameKind) : State :=
  match kind with
  | .digest => s.setSync { s.sync with rangeEnd := none }
  | .pull => s.setSync { s.sync with
      pullList := []
      wanted := s.sync.wanted.map fun w =>
        if s.sync.pullList.contains w.tag then { w with asks := w.asks - 1, nextAsk := s.now } else w }
  | .publish => s
  | .beacon => s

/-- R98: the IN_FLIGHT item returns to WAITING at the head. -/
def State.returnItem (s : State) : State :=
  match s.sendQ with
  | item :: rest =>
    if item.inFlight then
      (s.setSendQ ({ item with inFlight := false } :: rest)).toldReturned item.payload.kind
    else s
  | [] => s

/-- R99: the queue without its IN_FLIGHT head; a set again mark places a new PUBLISH item at the tail, unless the queue
is closed (R94). -/
def afterRemoval (onBus : Bool) (item : SendItem) (rest : List SendItem) : List SendItem :=
  match item.payload with
  | .publish tag true => if onBus then rest ++ [SendItem.fresh (.publish tag false)] else rest
  | _ => rest

/-- R14: a completion clears the pending mark when the captured pair is the one held. -/
def State.clearUnsent (s : State) (tag : Tag) (captured : Option OrderPair) : State :=
  s.modifyEntry tag fun e => if captured = some e.pair then { e with unsent := false } else e

/-- Table 91: a frame kind as a reason. -/
def FrameKind.reason : FrameKind → Reason
  | .publish => .publish
  | .pull => .pull
  | .digest => .digest
  | .beacon => .beacon

/-- Table 45, column Notice. -/
def completionNotice (payload : Payload) (captured : Option OrderPair) (outcome : Outcome) : Option Notice :=
  match outcome, payload with
  | .rejected, .publish tag _ => some ⟨.rejected, some tag, none, captured, none⟩
  | .undelivered, .publish tag _ => some ⟨.undelivered, some tag, none, captured, some .publish⟩
  | .undelivered, p => some ⟨.undelivered, none, none, none, some p.kind.reason⟩
  | _, _ => none

/-- A post of a notice, if there is one. -/
def State.postIf (s : State) (n : Option Notice) : State :=
  match n with
  | some n => s.post n
  | none => s

/-- R123: the run's DIGEST item completed. -/
def State.digestCompleted (s : State) (outcome : Outcome) : State :=
  match outcome with
  | .undelivered => (s.setSync { s.sync with digestQueued := false, rangeEnd := none }).endRun
  | _ =>
    match s.sync.rangeEnd with
    | some stop =>
      if stop = 0xFFE#12 then (s.setSync { s.sync with digestQueued := false, rangeEnd := none }).endRun
      else (s.setSync { s.sync with digestQueued := false, rangeEnd := none, cursor := stop + 1#12 }).claimDigest
    | none => (s.setSync { s.sync with digestQueued := false }).claimDigest

/-- Table 45, column Sync Unit (R123, R129, R114). -/
def State.toldCompleted (s : State) (kind : FrameKind) (outcome : Outcome) : State :=
  match kind with
  | .digest => s.digestCompleted outcome
  | .pull => (s.setSync { s.sync with pullList := [] }).claimPull
  | .publish => s
  | .beacon => s

/-- R87, Table 45: the IN_FLIGHT item completes: the Send Queue, then the Record Table, then the notice, then the Sync
Unit, in one step. -/
def State.complete (s : State) (outcome : Outcome) : State :=
  match s.sendQ with
  | item :: rest =>
    if item.inFlight then
      let captured := s.fe.snapshot.bind (·.captured)
      let s1 := s.setSendQ (afterRemoval s.onBus item rest)
      let s2 := match item.payload, outcome with
        | .publish tag _, .delivered => s1.clearUnsent tag captured
        | .publish tag _, .unheard => s1.clearUnsent tag captured
        | _, _ => s1
      (s2.postIf (completionNotice item.payload captured outcome)).toldCompleted item.payload.kind outcome
    else s
  | [] => s

/-- R86: an attempt is counted against the IN_FLIGHT item, which returns to WAITING or ends UNDELIVERED. -/
def State.countAttempt (s : State) : State :=
  match s.sendQ with
  | item :: rest =>
    if item.inFlight then
      let s1 := s.setSendQ ({ item with attempts := item.attempts + 1 } :: rest)
      if item.attempts + 1 < maxAttempts then s1.returnItem else s1.complete .undelivered
    else s
  | [] => s

/-- Table 44: the outcome from the three slots; none stands for RETRY. -/
def slotOutcome (accept retry reject : Bool) : Option Outcome :=
  if !retry then none
  else if !reject then some .rejected
  else if !accept then some .delivered
  else some .unheard

/-- R85: the outcome is fixed and applied at the REJECT slot; the machine stays in VOTING (Table 42). -/
def State.fixOutcome (s : State) : State :=
  let b := s.fe.buf
  let s1 := match slotOutcome (b.slot 1) (b.slot 2) (b.slot 3) with
    | none => s.countAttempt
    | some o => s.complete o
  s1.setFe { s1.fe with outcomeFixed := true }

/-! ### Late loss (R74 to R77) -/

/-- R75: the reason of DIVERGED by the loss position. -/
def lossReason (position : Nat) : Reason :=
  if position ≤ 36 then .attributes else .value

/-- R75: a confirmed late loss of a PUBLISH frame: DIVERGED is posted, the item removed (with a re-queue for its again
mark), and the transmit machine rests. -/
def State.applyLateLoss (s : State) : State :=
  match s.sendQ with
  | item :: rest =>
    if item.inFlight then
      let s1 := s.post ⟨.diverged, s.fe.buf.header.map (·.key), none, s.fe.snapshot.bind (·.captured),
        some (lossReason (s.fe.loss.getD 37))⟩
      (s1.setSendQ (afterRemoval s.onBus item rest)).rest
    else s.rest
  | [] => s.rest

/-- R74: the late loss is confirmed: the check code of the frame taken is good. -/
def FrameEngine.lossConfirmed (f : FrameEngine) : Bool :=
  f.tx == .lostLate && f.buf.good == some true

/-- R77: a late loss that is not confirmed counts one attempt, the transmit machine rests and the loss position is cleared. -/
def State.lossNotConfirmed (s : State) : State :=
  let s1 := s.countAttempt.rest
  s1.setFe { s1.fe with loss := none }

/-- R76: a confirmed late loss of another kind reports DUPLICATE_ID. -/
def State.reportDuplicate (s : State) : State :=
  s.setReports { s.reports with duplicateId := true }

/-- A late loss whose frame ends or breaks: not confirmed, or confirmed without a decision (log entry 18). -/
def State.endLateLoss (s : State) : State :=
  if s.fe.lossConfirmed then
    if s.fe.buf.kind? = some .publish then s.applyLateLoss else s.reportDuplicate.returnItem.rest
  else s.lossNotConfirmed

/-! ### The end of a frame for the station -/

/-- R79, R90: no frame is open for the Frame Engine any more. -/
def State.leaveFrame (s : State) : State :=
  let s1 := s.reportPartEnded
  s1.setFe { s1.fe with rx := .hunt, role := .none, deciding := false }

/-- R50, R53, R86: the open frame is abandoned, as the Frame Engine takes it; in LOST_LATE that is a late loss not confirmed
(R77). -/
def State.abandonFrame (s : State) : State :=
  let s1 :=
    if s.fe.tx = .lostLate then s.lossNotConfirmed
    else if s.fe.outcomeOpen then s.countAttempt.rest
    else if s.fe.inFrame then s.rest
    else s
  s1.leaveFrame

/-- R88: the open frame is cut by the freeze; the IN_FLIGHT item returns unless its outcome is fixed. -/
def State.cutFrame (s : State) : State :=
  let s1 := if s.fe.outcomeOpen then s.returnItem else s
  s1.leaveFrame

/-- R89, R55: the station leaves JOINING or ACTIVE with a frame open and follows it without part; an item still IN_FLIGHT
returns to WAITING (a move to QUIESCED clears it, R102). From FAULTED, where the station has no part already, the receive
machine goes on following the frame (R80). -/
def State.dropFrame (s : State) : State :=
  let s1 := s.reportPartEnded
  let s2 := if s1.fe.outcomeOpen then s1.returnItem else s1
  let s3 := if s2.fe.inFrame then s2.rest else s2
  s3.setFe { s3.fe with
    role := .none
    rx := if s3.onBus then (if s3.line.frameOpen then .discard else .hunt) else s3.fe.rx
    deciding := false }

/-! ### Decisions (R81 to R83) -/

/-- The station is at its decision point with a frame of this kind and has not decided. -/
def State.atDecision (s : State) (kind : FrameKind) : Bool :=
  s.onBus && s.fe.role == .receiver && s.fe.deciding && s.fe.buf.kind? == some kind

/-- R43, R49, R81: the vote is placed in its slot (a 0 in the ACCEPT slot now, the others at their own falls) and the
hold released. -/
def State.castVote (s : State) (vote : Vote) : State :=
  (s.setFe { s.fe with vote := some vote, deciding := false }).setLine
    { (s.line.place (vote != .accept)).setDriveBck false with hold := .none }

/-- R83, R76: no vote is placed and no hold made. -/
def State.castNone (s : State) : State :=
  (s.setFe { s.fe with deciding := false }).setLine { s.line.setDriveBck false with hold := .none }

/-- R81: the receiver will place a vote on the frame it has taken: not on a frame of its own ID (R83), nor at a confirmed
late loss of another kind than PUBLISH (R76). -/
def State.willVote (s : State) : Bool :=
  match s.fe.buf.content with
  | none => false
  | some c =>
    match c.sender? with
    | none => true
    | some sender =>
      !(s.fe.buf.good == some true && c.wellFormed && sender == s.control.ownId) && !s.fe.lossConfirmed

/-! ### The rise of BCK (R43, R72, R79) -/

/-- The bit this station places in the next position, if it is a transmitter of the open frame (R72): through its closing bit,
and nothing beyond it (R42, R47). -/
def State.placedBit (s : State) : Option Bool :=
  if s.fe.role = .transmitter then
    s.fe.snapshot.bind fun f =>
      if s.fe.buf.count + 1 ≤ 62 + f.body.length then some (f.bitAt (s.fe.buf.count + 1)) else none
  else none

/-- R48: the level a voting receiver places at a position: 0 in the slot of its vote, 1 in the other two, and released
from the closing bit on. -/
def voteLevel (vote : Vote) (bodyLen position : Nat) : Bool :=
  match vote with
  | .accept => position != 59 + bodyLen
  | .retry => position != 60 + bodyLen
  | .reject => position != 61 + bodyLen

/-- R43, R48: the level this station places on BDA for the next position, or none if it places nothing there. -/
def State.nextLevel (s : State) : Option Bool :=
  match s.fe.role with
  | .transmitter => s.placedBit
  | .receiver =>
    match s.fe.rx, s.fe.vote, s.fe.buf.bodyLen with
    | .vote, some v, some len => some (voteLevel v len (s.fe.buf.count + 1))
    | _, _, _ => none
  | .none => none

/-- R43: by the rise of BCK the level of the position stands on BDA (log entry 8). -/
def State.lineAtRise (s : State) : LineIf :=
  match s.nextLevel with
  | some level => s.line.place level
  | none => s.line.settle

/-- R58, R64, R65, R79: the receive buffer takes a bit: the check register runs through position 58 + B, the header is
decoded at the end of position 34, the body length fixed at 42, and the check result at 58 + B. -/
def RxBuffer.take (b : RxBuffer) (bit : Bool) : RxBuffer :=
  let bits := b.bits ++ [bit]
  let n := bits.length
  let covered := match b.bodyLen with
    | some len => decide (n ≤ 58 + len)
    | none => true
  let crc := if covered then crcStep b.crc bit else b.crc
  let header := if n = 34 then some (decodeHeader bits) else b.header
  let desc := if n = 42 then some (ofMsbBits 8 (fieldAt bits 35 8)) else b.desc
  let bodyLen := if n = 42 then
      match header with
      | some h => some (bodyLength h.kind (ofMsbBits 8 (fieldAt bits 35 8)))
      | none => b.bodyLen
    else b.bodyLen
  let good := match bodyLen with
    | some len => if n = 58 + len then some (crc == 0#16) else b.good
    | none => b.good
  ⟨bits, header, desc, bodyLen, crc, good⟩

/-- Table 43: the receive machine's state after `n` positions of a frame with this body length. -/
def rxAfter (n : Nat) (bodyLen : Option Nat) : RxMachine :=
  if n < 34 then .header else
  match bodyLen with
  | none => .body
  | some len => if n < 42 + len then .body else if n < 58 + len then .check else .vote

/-- R79: the receive machine takes a bit, unless it is hunting or discarding. -/
def FrameEngine.takeBit (f : FrameEngine) (bit : Bool) : FrameEngine :=
  match f.rx with
  | .hunt => f
  | .discard => f
  | _ => { f with buf := f.buf.take bit, rx := rxAfter (f.buf.count + 1) (f.buf.take bit).bodyLen }

/-- R73, R74: at a loss the station is told it is a receiver: it drives neither line and its role is RECEIVER. -/
def State.becomeReceiver (s : State) : State :=
  (s.setLine s.line.release).setFe { s.fe with role := .receiver }

/-- Table 42: the transmit machine at a rise, after the receive machine has taken the bit. `placed` is the bit this station
placed, if it was a transmitter. -/
def State.advanceTx (s : State) (placed : Option Bool) (bit : Bool) : State :=
  let n := s.fe.buf.count
  let lost := placed == some true && !bit
  match s.fe.tx with
  | .contending =>
    if lost then s.becomeReceiver.returnItem.rest
    else if n = 34 then s.setFe { s.fe with tx := .sending } else s
  | .sending =>
    if lost then
      let s1 := s.becomeReceiver
      let s2 := s1.setFe { s1.fe with tx := .lostLate, loss := some n }
      if s.fe.buf.checkEnd = some n && s.fe.buf.good == some false then s2.lossNotConfirmed else s2
    else if s.fe.buf.checkEnd = some n then s.setFe { s.fe with tx := .voting } else s
  | .voting =>
    if !s.fe.outcomeFixed && s.fe.buf.bodyLen.map (61 + ·) = some n then s.fixOutcome else s
  | .lostLate =>
    if s.fe.buf.checkEnd = some n && s.fe.buf.good == some false then s.lossNotConfirmed else s
  | .idle => s
  | .waiting => s

/-- The lines at a rise of BCK, at which no station drives it; `level` is the level the other stations leave BDA at. -/
def LineIf.rise (l : LineIf) (level : Bool) : LineIf :=
  ({ l with
    driveBck := false
    hold := .none
    othersBck := true
    othersBda := level
    bckSeen := true
    bdaSeen := level && !l.driveBda
    bckHigh := 0
    quiet := 0 } : LineIf).read

/-- R42, R47: the clock at a rise: a transmitter times its high half, or after its closing bit releases BDA a quarter bit
later and drives BCK no more. -/
def State.clockRise (s : State) : State :=
  if s.fe.role = .transmitter then
    match s.fe.snapshot with
    | some f =>
      if s.fe.buf.count ≥ 62 + f.body.length then
        s.setLine { s.line with phase := .none, halfTimer := none, placing := some true }
      else s.setLine { s.line with phase := .high, halfTimer := some 0 }
    | none => s
  else s

/-- A rise of BCK with a frame open: what is to be placed on BDA is placed (log entry 8), a finished low half or lookup hold
is released (log entry 9), the bit is taken by wired-AND with this station's own driver (R39), and both machines and the
clock advance. -/
def State.riseInFrame (s : State) (level : Bool) : State :=
  let l := s.lineAtRise.rise level
  let placed := s.placedBit
  let s1 := (s.setLine l).setFe (s.fe.takeBit l.bda)
  (s1.advanceTx placed l.bda).clockRise

/-- R39, R41: outside the link states that track the lines only the levels read follow them (log entry 42). -/
def State.readLines (s : State) (bck bda : Bool) : State :=
  s.setLine { s.line with othersBck := bck, othersBda := bda, bckSeen := bck, bdaSeen := bda }

/-- R43: a rise of BCK. Where the lines are not tracked only their levels are read. BCK cannot rise while this station holds
it at the decision point (R49): the command then changes nothing. -/
def State.rise (s : State) (level : Bool) : State :=
  if !s.tracks then s.readLines true level
  else if s.line.hold == .decision then s
  else if s.line.frameOpen then s.riseInFrame level
  else s.setLine (s.line.rise level)

end Sys2Proof.Machine
end

