-- ==== Sys2Proof/Machine/StoreOps.lean ====
section
/-! DEFINITION. What the write engine does to the array, the pair map and its claims on the other blocks (Chapter 9),
apart from the end of the start sequence. -/

namespace Sys2Proof.Machine

/-! ### The array and the pair map -/

/-- The content of one slot of a record pair is set. -/
def PairSlots.set (p : PairSlots) (slot : SlotName) (c : SlotContent) : PairSlots :=
  match slot with
  | .a => { p with a := c }
  | .b => { p with b := c }

/-- A record slot of the array is set. -/
def RetainedArray.setSlot (m : RetainedArray) (pair : Nat) (slot : SlotName) (c : SlotContent) : RetainedArray :=
  { m with pairs := m.pairs.modify pair fun p => p.set slot c }

/-- Both slots of a record pair are set. -/
def RetainedArray.setPair (m : RetainedArray) (pair : Nat) (a b : SlotContent) : RetainedArray :=
  { m with pairs := m.pairs.set pair ⟨a, b⟩ }

/-- A station slot is set. -/
def RetainedArray.setStation (m : RetainedArray) (slot : SlotName) (c : StationSlot) : RetainedArray :=
  match slot with
  | .a => { m with stationA := c }
  | .b => { m with stationB := c }

/-- R139: the condition of one slot of a pair is recorded. -/
def PairMapEntry.setCond (e : PairMapEntry) (slot : SlotName) (c : SlotCond) : PairMapEntry :=
  match slot with
  | .a => { e with condA := c }
  | .b => { e with condB := c }

/-- R148, R149: a pair whose erase failed or was cut short keeps its assignment; its conditions are INVALID, so that it has
no newest copy (R139). -/
def PairMapEntry.spoil (e : PairMapEntry) : PairMapEntry :=
  { e with condA := .invalid, condB := .invalid, newest := none }

/-- The configuration fields that 15 bits in the order of Table 76 spell. -/
def configOfBits (b : BitVec 15) : ConfigFields :=
  ⟨b.extractLsb' 11 4, b.extractLsb' 9 2, b.extractLsb' 1 8, if b.getLsbD 0 then .restart else .freeze⟩

/-- Log entry 11: what a record slot cut short is left as. -/
def tornSlot (n : Nat) : SlotContent :=
  if Config.tornErased n then .erased else .torn

/-- Log entry 11: what a station slot cut short is left as. -/
def tornStation (n : Nat) : StationSlot :=
  if Config.tornErased n then .erased else .torn

/-- Log entries 11 and 12: what the configuration area cut short is left as. -/
def tornConfigArea (n : Nat) : ConfigArea :=
  if Config.tornErased n then .erased else .torn (configOfBits (Config.tornConfig n))

/-- Log entry 36: what a pair is left as when its erase reports write-done and the two slots do not both read ERASED. -/
def unerasedPair (n : Nat) : SlotContent × SlotContent :=
  if Config.tornErased n then (.erased, .torn) else (.torn, tornSlot (n + 1))

/-- The target of the operation in progress, under write (R137: from the moment a write begins its slot holds no valid
copy). -/
def RetainedArray.underWrite (m : RetainedArray) : StoreOp → RetainedArray
  | .commit _ pair target _ _ => m.setSlot pair target .writing
  | .configWrite _ => { m with config := .writing }
  | .wipe pair _ => m.setPair pair .writing .writing
  | .incarnation slot _ => m.setStation slot .writing

/-- R137, R149: the target of an operation cut short, ERASED or INVALID. -/
def RetainedArray.cutShort (m : RetainedArray) (n : Nat) : StoreOp → RetainedArray
  | .commit _ pair target _ _ => m.setSlot pair target (tornSlot n)
  | .configWrite _ => { m with config := tornConfigArea n }
  | .wipe pair _ => m.setPair pair (tornSlot n) (tornSlot (n + 1))
  | .incarnation slot _ => m.setStation slot (tornStation n)

/-- R137: the target of an operation whose verify failed: INVALID. -/
def RetainedArray.misread (m : RetainedArray) (n : Nat) : StoreOp → RetainedArray
  | .commit _ pair target _ _ => m.setSlot pair target .torn
  | .configWrite _ => { m with config := .torn (configOfBits (Config.tornConfig n)) }
  | .wipe pair _ => m.setPair pair (unerasedPair n).1 (unerasedPair n).2
  | .incarnation slot _ => m.setStation slot .torn

/-- R144: the target of an operation whose verify matched. -/
def RetainedArray.written (m : RetainedArray) : StoreOp → RetainedArray
  | .commit _ pair target image _ => m.setSlot pair target (.copy image)
  | .configWrite f => { m with config := .holds f f.code }
  | .wipe pair _ => m.setPair pair .erased .erased
  | .incarnation slot v => m.setStation slot (.copy v (stationCode v))

/-- The state with another array. -/
def State.setArray (s : State) (m : RetainedArray) : State :=
  s.setStore { s.store with array := m }

/-- The state with another write engine. -/
def State.setEngine (s : State) (g : WriteEngine) : State :=
  s.setStore { s.store with engine := g }

/-- The state with another pair map. -/
def State.setPairMap (s : State) (m : List PairMapEntry) : State :=
  s.setStore { s.store with pairMap := m }

/-- The write engine takes an operation: its write begins and the write limit timer starts (R142, R147, R148, R152). -/
def State.beginOp (s : State) (op : StoreOp) : State :=
  (s.setArray (s.store.array.underWrite op)).setEngine ⟨some op, 0, 0, false⟩

/-- R145: the write begins again, with the same image to the same target. -/
def State.rewrite (s : State) (op : StoreOp) : State :=
  (s.setArray (s.store.array.underWrite op)).setEngine ⟨some op, 1, 0, s.store.engine.discard⟩

/-- The engine is free. -/
def State.freeEngine (s : State) : State :=
  s.setEngine .initial

/-- R149, R157: the array is left as a cut operation leaves it, and the engine is free. -/
def State.cutEngine (s : State) : State :=
  match s.store.engine.op with
  | none => s
  | some op => ((s.setArray (s.store.array.cutShort s.free op)).freeEngine).useFree 2

/-- R149: the write engine abandons the operation it carries at a supply-low, and a request not yet started ends without
writing (R164). Under RESTART and at a power-up the start that follows empties the port of the answer (R181). -/
def State.abandonOp (s : State) : State :=
  let s1 := s.cutEngine
  let s2 := match s.store.engine.op with
    | some (.commit tag _ _ _ _) => s1.setStoreState tag .dirty
    | some (.configWrite _) => s1.answer .storeFailed []
    | some (.wipe pair _) => (s1.setPairMap (s1.store.pairMap.modify pair PairMapEntry.spoil)).answer .storeFailed []
    | some (.incarnation _ _) => s1
    | none => s1
  match s2.store.request with
  | some _ => (s2.setStore { s2.store with request := none }).answer .storeFailed []
  | none => s2

/-! ### Commits (R142 to R145) -/

/-- R142 steps 2 and 3: the image of an entry, its check code by R138. -/
def Entry.image (e : Entry) : SlotImage :=
  let i : SlotImage := ⟨e.tag, e.cls, e.owner.getD 0#4, e.pair, BitVec.ofNat 6 e.value.length,
    e.value ++ List.replicate (maxLength - e.value.length) 0#8, 0#16⟩
  { i with check := i.code }

/-- R142, R140: the commit of the Commit Queue head starts on a pair. -/
def State.startCommitOn (s : State) (e : Entry) (pair : Nat) : State :=
  match s.store.pairMap[pair]? with
  | none => s
  | some m =>
    let target := m.target
    let s1 := s.setStoreState e.tag .committing
    let s2 := s1.setPairMap (s1.store.pairMap.set pair ({ m with tag := some e.tag }.setCond target .invalid))
    s2.beginOp (.commit e.tag pair target e.image false)

/-- R140: a head that can be given no pair leaves the queue; its entry becomes UNSTORED with COMMIT_FAILED. -/
def State.dropHead (s : State) (tag : Tag) : State :=
  ((s.setStore { s.store with commitQ := s.store.commitQ.tail }).setStoreState tag .unstored).post
    (.commitFailed (some tag) .storeFull)

/-- R145: the head leaves the Commit Queue, and a changed record is appended again at the tail. -/
def State.endCommit (s : State) (tag : Tag) (changed : Bool) (st : StoreState) : State :=
  let rest := s.store.commitQ.tail
  ((s.setStore { s.store with commitQ := if changed then rest ++ [tag] else rest }).setStoreState tag
    (if changed then .dirty else st)).freeEngine

/-- R139, R145: at a verify that matches the target is VALID and newest. -/
def PairMapEntry.verified (e : PairMapEntry) (target : SlotName) : PairMapEntry :=
  { e.setCond target .valid with newest := some target }

/-! ### WIPE (R148) -/

/-- R148: the first step of a WIPE: the Commit Queue is emptied and every persistent entry becomes UNSTORED. -/
def State.clearStored (s : State) : State :=
  (s.setStore { s.store with commitQ := [] }).setTable
    { s.table with entries := s.table.entries.map fun e => if e.persistent then { e with storeState := .unstored } else e }

/-- R148: the WIPE goes on to the next pair, or ends after pair 47 and hands its result to the port unless that is to be
discarded (R150). -/
def State.nextWipe (s : State) (pair : Nat) (allFreed : Bool) : State :=
  if pair + 1 < maxPlaces then
    let op := StoreOp.wipe (pair + 1) allFreed
    (s.setArray (s.store.array.underWrite op)).setEngine ⟨some op, 0, 0, s.store.engine.discard⟩
  else
    let s1 := s.freeEngine
    if s.store.engine.discard then s1 else s1.answer (if allFreed then .ok else .storeFailed) []

/-! ### The load scan (R151, R21) -/

/-- R21: the entry created from a copy. -/
def SlotImage.entry (i : SlotImage) : Entry :=
  ⟨i.tag, i.cls, true, if i.cls = .owned then some i.pair.origin else none, i.pair,
    i.value.take i.length.toNat, false, .clean, false⟩

/-- R151: the Record Table loaded from the selected copies, in ascending pair order. -/
def loadTable (pairs : List PairSlots) : RecordTable :=
  pairs.foldl (fun t p => match p.selected with | some i => t.put i.entry | none => t) .initial

/-- R151: the pair map entry built from a reading. -/
def PairSlots.mapEntry (p : PairSlots) : PairMapEntry :=
  ⟨p.selected.map (·.tag), p.a.cond, p.b.cond, p.newest⟩

end Sys2Proof.Machine
end

