-- ==== Sys2Proof/Machine/LinkOps.lean ====
section
/-! DEFINITION. The moves of the link state and what each makes the blocks do (Chapter 10, Table 78). -/

namespace Sys2Proof.Machine

/-- R159: the link state and its reason change and a LINK notice is posted, in one step. -/
def State.move (s : State) (link : LinkState) (reason : Reason) : State :=
  (s.setControl { s.control with link := link, reason := reason }).post (.link reason)

/-! ### Into JOINING -/

/-- R111: at an entry into JOINING the silence timer of a PRESENT peer restarts, that of a SILENT one stays stopped. -/
def PeerEntry.restartTimer (p : PeerEntry) : PeerEntry :=
  { p with timer := if p.silent then none else some 0 }

/-- R119: an entry's next-ask time at an entry into JOINING: due at once below three asks, else one answer wait on. -/
def WantedEntry.revive (w : WantedEntry) (now wait : Nat) : WantedEntry :=
  { w with nextAsk := if w.asks < maxAsks then now else now + wait }

/-- R119, R113, R111: the Sync Unit at an entry into JOINING, before its claims. -/
def SyncUnit.enterJoining (y : SyncUnit) (now wait : Nat) : SyncUnit :=
  { y with
    roster := y.roster.map PeerEntry.restartTimer
    beaconTimer := some 0
    wanted := y.wanted.map fun w => w.revive now wait
    listen := some 0
    joinDigest := .notYet
    settle := .stopped
    joinReported := false }

/-- An entry of the link state into JOINING, for every block: a frame already open is followed without part (R80), a line
condition still STUCK is reported again (R55), the timers and the listen window start (R111, R113, R119), and the DIGEST
claim is made before the PULL claim (R119, R121). Of the reports of an earlier stay that Station Control has not taken,
JOIN_COMPLETE is dropped, and DUPLICATE_ID and BUS_STUCK stay and act in the new stay; the spec leaves both open (log entry 48,
DESIGN CHOICE). -/
def State.enterJoining (s : State) : State :=
  let s1 := s.setFe { s.fe with rx := if s.line.frameOpen then .discard else s.fe.rx }
  let s2 := s1.setReports { s1.reports with
    joinComplete := false
    busStuck := s1.reports.busStuck || s1.line.cond == .stuck }
  let s3 := s2.setSync (s2.sync.enterJoining s2.now s2.control.ownPeriod)
  s3.claimDigest.claimPull

/-! ### Out of JOINING or ACTIVE -/

/-- R111: every silence timer stops and keeps no count. -/
def PeerEntry.stopTimer (p : PeerEntry) : PeerEntry :=
  { p with timer := none }

/-- R111, R113, R134: the timers of the Sync Unit stop and keep no count. -/
def SyncUnit.stopTimers (y : SyncUnit) : SyncUnit :=
  { y with
    roster := y.roster.map PeerEntry.stopTimer
    beaconTimer := none
    listen := none
    settle := .stopped }

/-- R135: the reconciliation state is cleared. -/
def SyncUnit.clear (y : SyncUnit) : SyncUnit :=
  { y.stopTimers with
    runActive := false
    cursor := 0x001#12
    digestQueued := false
    rangeEnd := none
    wanted := []
    pullList := []
    joinDigest := .notYet }

/-- R55: the station's lines are released and any right to open withdrawn. -/
def State.releaseLines (s : State) : State :=
  s.setLine { s.line.release with right := false }

/-- R160, R102, R135, R55, R89: the move into QUIESCED from JOINING, ACTIVE or FAULTED. -/
def State.toQuiesced (s : State) (reason : Reason) : State :=
  let s1 := s.dropFrame.releaseLines
  let s2 := (s1.move .quiesced reason).setQueue []
  s2.setSync s2.sync.clear

/-- R159, R55, R134, R111: the move to FAULTED. -/
def State.toFaulted (s : State) : State :=
  let s1 := s.dropFrame.releaseLines
  let s2 := s1.move .faulted .busStuck
  s2.setSync s2.sync.stopTimers

/-! ### Quiesce (R161) -/

/-- R161: a host QUIESCE completes with the move to QUIESCED, and the port answers OK (R172). -/
def State.completeQuiesce (s : State) : State :=
  let s1 := s.toQuiesced .hostRequest
  (s1.setControl { s1.control with quiesceWaiting := false }).answer .ok []

/-! ### START (R157, R158) -/

/-- R157: the level of PFAIL sets the supply watch at an entry to START. -/
def watchOf (pfail : Bool) : SupplyWatch :=
  if pfail then .low else .good

/-- R181: the port at an entry to START. -/
def HostPort.atStart (p : HostPort) : HostPort :=
  { HostPort.initial with sel := p.sel, statusByte := p.statusByte, shiftedOut := p.shiftedOut }

/-- R157: the entry to START, for every block: the write engine's operation is dealt with by the caller. The level of PFAIL
itself, not the filtered one, sets the watch (R163): `pfailPin`, which POWER_UP sets and which the edges of PFAIL change, shown
by SUPPLY_LOW and SUPPLY_GOOD (log entry 47). -/
def State.enterStart (s : State) (cause : StartCause) : State :=
  { s with
    control := { s.control with
      link := .start
      returnState := .none
      cause := cause
      watch := watchOf s.pfailPin
      filter := 0
      quiesceWaiting := false }
    line := s.line.restart
    fe := .initial
    sendQ := []
    sync := .initial s.sync.ownIncarnation
    store := { s.store with commitQ := [], request := none, repaired := false }
    port := s.port.atStart
    reports := .none }

/-- R150: an operation in progress is carried to its end and its result discarded. -/
def State.discardOp (s : State) : State :=
  match s.store.engine.op with
  | some _ => s.setEngine { s.store.engine with discard := true }
  | none => s

/-- R157: a start by the RESET pin or the RESTART command. -/
def State.startKeepingOp (s : State) (cause : StartCause) : State :=
  (s.enterStart cause).discardOp

/-- R157, R149: a start by power-up or by the RESTART action: the write engine abandons the operation in progress, and the port
gives no answer, since the start empties it. -/
def State.startCuttingOp (s : State) : State :=
  s.abandonOp.enterStart .power

/-- R158 steps 2 to 4: the configuration read (R156), the load scan (R151, R153), and the incarnation write (R152). -/
def State.runStart (s : State) : State :=
  let m := s.store.array
  let inc := m.incarnationRead + 1#8
  let s1 := s.setControl { s.control with config := m.config.valid? }
  let s2 := s1.setTable (loadTable m.pairs)
  let s3 := s2.setStore { s2.store with
    pairMap := m.pairs.map PairSlots.mapEntry
    commitQ := []
    repaired := m.anyInvalid
    incarnation := inc }
  let s4 := s3.setSync { s3.sync with ownIncarnation := inc }
  s4.beginOp (.incarnation m.stationTarget inc)

/-- R158 step 5, R163, R181: the start ends in JOINING or QUIESCED; the LINK notice is posted, the port leaves NOT_READY, and
the supply watch is set to GOOD with its filter restarted. Outside START there is no start to end (log entry 31). -/
def State.leaveStart (s : State) : State :=
  if s.control.link = .start then
    let s1 := s.setControl { s.control with watch := .good, filter := 0 }
    let s2 := s1.setPort { s1.port with state := .idle }
    if s2.control.configValid then (s2.move .joining .started).enterJoining
    else s2.move .quiesced .configInvalid
  else s

/-! ### FROZEN (R164, R165) -/

/-- R164: the return state recorded. -/
def LinkState.returnFrom : LinkState → ReturnState
  | .quiesced => .quiesced
  | _ => .joining

/-- R164: the move to FROZEN in one step: a waiting quiesce completes first, then the frame is cut (R88, R56), the write
engine abandons its operation (R149), and the timers stop. -/
def State.toFrozen (s : State) : State :=
  let s1 := if s.control.quiesceWaiting then s.completeQuiesce else s
  let s2 := s1.cutFrame
  let s3 := (s2.setFe .initial).setLine s2.line.restart
  let s4 := s3.abandonOp
  let s5 := s4.setSync s4.sync.stopTimers
  let s6 := s5.setControl { s5.control with
    returnState := s5.control.link.returnFrom
    watch := .low
    filter := 0 }
  s6.move .frozen .supplyLow

/-- R165: the move out of FROZEN to the return state. -/
def State.leaveFrozen (s : State) : State :=
  let back := s.control.returnState
  let s1 := s.setControl { s.control with returnState := .none, watch := .good, filter := 0 }
  match back with
  | .quiesced => s1.move .quiesced .supplyGood
  | _ =>
    let s2 := s1.move .joining .supplyGood
    (s2.setFe { s2.fe with tx := s2.fe.tx.follow s2.sendQ }).enterJoining

end Sys2Proof.Machine
end

