-- ==== Sys2Proof/Machine/HostPort.lean ====
section
/-! DEFINITION. The commands of the host port (Chapter 11): transactions, requests and fetches. -/

namespace Sys2Proof.Machine

/-- The outcome of every command: a next state. -/
abbrev Result := Host.Outcome State Fault Refusal

/-! ### Transactions -/

/-- R168: the status byte of the transaction in hand: the one loaded at SEL fall, or, if TRANSACTION_BEGIN was not sent as a
command of its own, the port as it stands now (log entry 22). -/
def HostPort.shownStatus (p : HostPort) : Byte :=
  if p.sel then p.statusByte else p.status

/-- R167, R168: what SDO carries: the byte shifted out last while SEL is asserted, and none, high-impedance, otherwise. -/
def HostPort.sdo (p : HostPort) : Option Byte :=
  if p.sel then p.shiftedOut.getLast?.or (some p.statusByte) else none

/-- R168: a transaction that carries a request: the status byte and then 0xFF for each further byte are shifted out, and the
first 38 bytes shifted in are kept and all of them counted. SEL rises. A start inside the transaction empties the request
buffer (R181), and what the bytes after it make is the model's choice (log entry 50): the request arrives with all its
bytes. -/
def HostPort.shiftRequest (p : HostPort) (code : Byte) (args : List Byte) : HostPort :=
  { p with
    sel := false
    statusByte := p.shownStatus
    shiftedOut := p.shownStatus :: List.replicate args.length 0xFF#8
    request := (code :: args).take maxRequest
    requestCount := args.length + 1 }

/-- R169: a request arrives at SEL rise and is taken in IDLE or READY; in WORKING it is dropped with OVERRUN, in NOT_READY
without. A taken request is checked for framing (`sized`), then meets the FROZEN gate of R182 (which `gated` commands
do not pass), then goes to its owner. -/
def State.request (s : State) (code : Byte) (args : List Byte) (sized gated : Bool) (owner : State → State) : State :=
  let s1 := s.setPort (s.port.shiftRequest code args)
  match s1.port.state with
  | .notReady => s1
  | .working => s1.setPort { s1.port with overrun := true }
  | _ =>
    let s2 := s1.setPort { s1.port with state := .working, response := none }
    if !sized then s2.answer .badArgument []
    else if gated && s2.control.link == .frozen then s2.answer .frozen []
    else owner s2

/-- R168: SEL falls, and the status byte is loaded to be shifted out first. -/
def HostPort.selFall (p : HostPort) : HostPort :=
  { p with sel := true, statusByte := p.status, shiftedOut := [p.status] }

/-- R168: SEL rises on a transaction in which no whole byte was shifted in: it carries no request and changes nothing. SDO is
high-impedance again, and no whole byte was shifted out. -/
def HostPort.selRiseEmpty (p : HostPort) : HostPort :=
  { p with sel := false, statusByte := p.shownStatus, shiftedOut := [] }

/-- TRANSACTION_BEGIN (R168): SEL falls and the status byte is loaded, or, with no whole byte shifted in, the transaction ends. -/
def execTransactionBegin (s : State) (empty : Bool := false) : Result :=
  .next (s.setPort (if empty then s.port.selRiseEmpty else s.port.selFall))

/-- R170: what follows the status byte in a fetch: the response's bytes if the port was READY at SEL fall, then 0xFF. -/
def HostPort.fetchTail (p : HostPort) (clocked : Nat) : List Byte :=
  let bytes := if p.shownStatus.extractLsb' 6 2 == PortState.ready.code then
      (p.response.map Response.bytes).getD [] else []
  bytes.take clocked ++ List.replicate (clocked - bytes.length) 0xFF#8

/-- R170: the fetch consumes the response: READY at SEL fall and still holding it, every byte clocked. -/
def HostPort.consumes (p : HostPort) (clocked : Nat) : Bool :=
  p.shownStatus.extractLsb' 6 2 == PortState.ready.code &&
    match p.response with
    | some r => decide (r.bytes.length ≤ clocked)
    | none => false

/-- FETCH (R170): the response is shifted out and, if fully clocked, consumed; OVERRUN is cleared unless NOT_READY. -/
def execFetch (clocked : Nat) (s : State) : Result :=
  let p := s.port
  let p1 := { p with
    sel := false
    statusByte := p.shownStatus
    shiftedOut := p.shownStatus :: p.fetchTail clocked
    overrun := if p.state = .notReady then p.overrun else false }
  .next (s.setPort (if p.consumes clocked then { p1 with state := .idle, response := none } else p1))

/-! ### Reads of the table (R17 to R19) -/

/-- R17: READ at the Record Table. -/
def State.ownerRead (args : List Byte) (s : State) : State :=
  match argRecordTag args with
  | none => s.answer .badArgument []
  | some tag =>
    match s.table.find tag with
    | none => s.answer .notFound []
    | some e => s.answer .ok e.readData

/-- READ (R17). -/
def execRead (args : List Byte) (s : State) : Result :=
  .next (s.request 0x01#8 args (args.length == 2) true (State.ownerRead args))

/-- R18: NEXT at the Record Table. -/
def State.ownerNext (args : List Byte) (s : State) : State :=
  match argNextTag args with
  | none => s.answer .badArgument []
  | some tag =>
    match s.table.entries.find? (fun e => decide (tag.toNat < e.tag.toNat)) with
    | none => s.answer .notFound []
    | some e => s.answer .ok (tagBytes e.tag)

/-- NEXT (R18). -/
def execNextTag (args : List Byte) (s : State) : Result :=
  .next (s.request 0x02#8 args (args.length == 2) true (State.ownerNext args))

/-- R19, R174: WATCH at the Record Table. No rule orders the test of the setting byte (R174) before or after that for an absent
tag (R19); where both fail, the answer BAD_ARGUMENT is the model's choice (log entry 51, DESIGN CHOICE). -/
def State.ownerWatch (args : List Byte) (s : State) : State :=
  match argRecordTag args, byteFlag (args.getD 2 0xFF#8) with
  | some tag, some setting =>
    match s.table.find tag with
    | none => s.answer .notFound []
    | some _ => (s.modifyEntry tag fun e => { e with watch := setting }).answer .ok []
  | _, _ => s.answer .badArgument []

/-- WATCH (R19). -/
def execWatch (args : List Byte) (s : State) : Result :=
  .next (s.request 0x04#8 args (args.length == 3) true (State.ownerWatch args))

/-! ### WRITE (R8 to R11) -/

/-- R8, Table 6: the checks on a WRITE in order; the first that fails decides. -/
def State.writeCheck (s : State) (w : WriteArgs) : Except ResultCode (Tag × RecordClass × Bool) :=
  if s.control.link != .active then .error .notActive else
  match w.tag, w.cls, w.persistent with
  | some tag, some cls, some persistent =>
    if maxLength < w.value.length then .error .badArgument else
    let held := s.table.find tag
    if held.isNone && maxEntries ≤ s.table.entries.length then .error .tableFull else
    if held.any (fun e => e.cls != cls || e.persistent != persistent) then .error .mismatch else
    if held.any (fun e => e.cls == .owned && e.owner != some s.control.ownId) then .error .notOwner else
    if held.any (fun e => e.pair.version == 0xFFFF#16) then .error .exhausted else
    if s.isWanted tag then .error .stale else
    if (findItem s.sendQ (.publish tag false)).isNone && maxItems ≤ s.sendQ.length then .error .queueFull else
    .ok (tag, cls, persistent)
  | _, _, _ => .error .badArgument

/-- R10, R2: the entry an accepted WRITE makes. -/
def State.writtenEntry (s : State) (tag : Tag) (cls : RecordClass) (persistent : Bool) (value : List Byte) : Entry :=
  match s.table.find tag with
  | some e => { e with pair := ⟨e.pair.version + 1#16, s.control.ownId⟩, value := value, unsent := true }
  | none => ⟨tag, cls, persistent, if cls = .owned then some s.control.ownId else none,
      ⟨1#16, s.control.ownId⟩, value, false, .none, true⟩

/-- R10, R11, R13: an accepted WRITE: the table, the Send Queue, and the notice of Table 8. -/
def State.applyWrite (s : State) (e : Entry) : State :=
  ((s.changeEntry e).claimWritten e.tag).noteUnstored e.tag

/-- R8 to R13: WRITE at the Record Table. -/
def State.ownerWrite (args : List Byte) (s : State) : State :=
  match parseWrite args with
  | none => s.answer .badArgument []
  | some w =>
    match s.writeCheck w with
    | .error code => s.answer code []
    | .ok (tag, cls, persistent) =>
      let e := s.writtenEntry tag cls persistent w.value
      (s.applyWrite e).answer .ok e.pair.writeData

/-- WRITE (R8). -/
def execWrite (args : List Byte) (s : State) : Result :=
  .next (s.request 0x03#8 args (parseWrite args).isSome true (State.ownerWrite args))

/-! ### Figures and notices (R171, R117, R180) -/

/-- STATUS (R171), executed in FROZEN too (R182). -/
def execStatus (args : List Byte) (s : State) : Result :=
  .next (s.request 0x05#8 args args.isEmpty false fun s => s.answer .ok s.statusData)

/-- PEERS (R117). -/
def execPeers (args : List Byte) (s : State) : Result :=
  .next (s.request 0x06#8 args args.isEmpty true fun s => s.answer .ok (rosterData s.sync.roster))

/-- R180: NOTICE removes the oldest notice and answers with it and the number left. -/
def State.ownerNotice (s : State) : State :=
  match s.port.notices with
  | [] => s.answer .notFound []
  | n :: rest => (s.setPort (s.port.setNotices rest)).answer .ok (BitVec.ofNat 8 rest.length :: n.bytes)

/-- NOTICE (R180). -/
def execNotice (args : List Byte) (s : State) : Result :=
  .next (s.request 0x07#8 args args.isEmpty true State.ownerNotice)

/-! ### Requests to Station Control (R161, R162, R175) -/

/-- R161: QUIESCE at Station Control. A request that waits is for the frame open now: a report of an earlier frame's end is
not its completion. -/
def State.ownerQuiesce (s : State) : State :=
  match s.control.link with
  | .quiesced => s.answer .ok []
  | .faulted => s.completeQuiesce
  | _ =>
    if s.hasPart then
      (s.setControl { s.control with quiesceWaiting := true }).setReports { s.reports with partEnded := false }
    else s.completeQuiesce

/-- QUIESCE (R161, R172). -/
def execQuiesce (args : List Byte) (s : State) : Result :=
  .next (s.request 0x08#8 args args.isEmpty true State.ownerQuiesce)

/-- R162: RESUME at Station Control. -/
def State.ownerResume (s : State) : State :=
  if s.control.link = .quiesced then
    if s.control.configValid then ((s.move .joining .hostRequest).enterJoining).answer .ok []
    else s.answer .badConfig []
  else s.answer .notQuiesced []

/-- RESUME (R162). -/
def execResume (args : List Byte) (s : State) : Result :=
  .next (s.request 0x09#8 args args.isEmpty true State.ownerResume)

/-- RESTART (R175): START with cause COMMAND; no response, and the port is NOT_READY. -/
def execRestart (args : List Byte) (s : State) : Result :=
  .next (s.request 0x0D#8 args args.isEmpty false fun s => s.startKeepingOp .command)

/-! ### Requests to the Retained Store (R171, R173) -/

/-- CONFIG READ (R171). -/
def execConfigRead (args : List Byte) (s : State) : Result :=
  .next (s.request 0x0A#8 args args.isEmpty true fun s => s.answer .ok s.store.array.config.readData)

/-- R173: CONFIG WRITE: the link-state test, then the arguments, then the request is pending at the store. -/
def State.ownerConfigWrite (args : List Byte) (s : State) : State :=
  if s.control.link = .quiesced then
    match parseConfig args with
    | none => s.answer .badArgument []
    | some f => s.setStore { s.store with request := some (.configWrite f) }
  else s.answer .notQuiesced []

/-- CONFIG WRITE (R173). -/
def execConfigWrite (args : List Byte) (s : State) : Result :=
  .next (s.request 0x0B#8 args (args.length == 4) true (State.ownerConfigWrite args))

/-- R173: WIPE: accepted in QUIESCED and pending at the store. -/
def State.ownerWipe (s : State) : State :=
  if s.control.link = .quiesced then s.setStore { s.store with request := some .wipe }
  else s.answer .notQuiesced []

/-- WIPE (R173). -/
def execWipe (args : List Byte) (s : State) : Result :=
  .next (s.request 0x0C#8 args args.isEmpty true State.ownerWipe)

/-- NOT_A_COMMAND_CODE (R169): the request fails the framing check. A code that is one of Table 87's is no such event. -/
def execNotACommandCode (code : Byte) (args : List Byte) (s : State) : Result :=
  .next (if portCode code then s else s.request code args false true id)

end Sys2Proof.Machine
end

