-- ==== Sys2Proof/Machine/LineInterface.lean ====
section
/-! DEFINITION. The commands of the Line Interface (Chapter 3): edges of the lines, the clock, and the line
condition. A command that names a measured time says that the time has been reached (log entry 5). -/

namespace Sys2Proof.Machine

/-! ### The line condition -/

/-- Another station pulls a line low (R39), and the fall is seen (R44). A low that this station's own driver makes and that
has not been taken yet, its clock pull or its opening mark, says nothing of the other stations. -/
def LineIf.lowOn (l : LineIf) (line : Line) : LineIf :=
  match line with
  | .bck => ({ l with
      othersBck := l.othersBck && l.driveBck && l.bckSeen
      bckSeen := false } : LineIf).read
  | .bda => ({ l with
      othersBda := l.othersBda && l.driveBda && !l.frameOpen
      bdaSeen := false } : LineIf).read

/-- The other stations leave both lines high. -/
def LineIf.othersHigh (l : LineIf) : LineIf :=
  ({ l with othersBck := true, othersBda := true, bckSeen := true, bdaSeen := true } : LineIf).read

/-- This station drives neither line. -/
def LineIf.released (l : LineIf) : Bool :=
  !l.driveBck && !l.driveBda

/-- QUIET_GAP (R44, R51): in FRAME without an open frame, or in HELD, the condition becomes IDLE and seen-idle is set. -/
def execQuietGap (s : State) : Result :=
  .next (
    if s.tracks && s.line.released && !s.line.frameOpen && (s.line.cond == .frame || s.line.cond == .held) then
      let l := s.line.othersHigh
      s.setLine { l with cond := .idle, seenIdle := true, quiet := max l.quiet s.quietGapTime }
    else s)

/-- R44, R45: a low in IDLE that is no opening mark: FRAME with no frame open, and the right lapses. -/
def LineIf.loseIdle (l : LineIf) : LineIf :=
  { l with cond := .frame, frameOpen := false, right := false }

/-- IDLE_LOST (R44): the Frame Engine is not told. Sent with the own opening mark driven and not yet taken, it says that the low
came before that mark (log entry 52). -/
def execIdleLost (line : Line) (s : State) : Result :=
  .next (if s.tracks && s.line.cond == .idle then s.setLine (s.line.lowOn line).loseIdle else s)

/-- RIGHT_TO_OPEN (R45, R71): in JOINING or ACTIVE and IDLE the right is given, and used for the head item if the transmit
machine waits. -/
def execRightToOpen (s : State) : Result :=
  .next (
    if s.onBus && s.line.released && s.line.cond == .idle then
      let l := s.line.othersHigh
      let s1 := s.setLine { l with right := true, quiet := max l.quiet s.openTime }
      if s1.fe.tx = .waiting then s1.openHead else s1
    else s)

/-- R50: BCK has read low for the hold limit, and this station lets both lines go: the line condition is HELD, and a line
that another station still pulls stays low. -/
def LineIf.toHeld (l : LineIf) (owes : Bool) (limit : Nat) : LineIf :=
  let l1 : LineIf := { l with
    othersBck := l.othersBck && l.driveBck
    bckSeen := false
    frameOpen := false
    cond := .held
    yieldOwed := owes
    bckLow := max l.bckLow limit }
  l1.release

/-- HOLD_LIMIT (R50, R86): with a frame open, the lines are released, the condition is HELD, the yield is owed by a
transmitter, and the frame is abandoned. -/
def execHoldLimit (s : State) : Result :=
  .next (
    if s.tracks && s.line.frameOpen then
      (s.setLine (s.line.toHeld (s.fe.role == .transmitter) s.holdTime)).abandonFrame
    else s)

/-- R52: BCK has read high for the broken-frame limit: no frame is open any more, in condition FRAME. Where BDA reads high too,
both lines have been high since BCK rose, since a rise of BDA would have been the end mark, and the quiet count has run. Where the
0 of this station's own vote stands on BDA, no rule says when it lets BDA go; that it lets go at once is the model's choice (log
entry 55, DESIGN CHOICE). -/
def LineIf.broken (l : LineIf) (limit : Nat) : LineIf :=
  let l1 : LineIf := { l with
    othersBck := true
    bckSeen := true
    frameOpen := false
    cond := .frame
    yieldOwed := false }
  let l2 := l1.release
  { l2 with
    bckHigh := max l2.bckHigh limit
    quiet := if l1.bda then max l2.quiet limit else l2.quiet }

/-- FRAME_BROKEN (R52, R77, R84): at a station that is no transmitter of the open frame, the frame is discarded. -/
def execFrameBroken (s : State) : Result :=
  .next (
    if s.tracks && s.line.frameOpen && s.fe.role != .transmitter then
      let s1 := s.setLine (s.line.broken s.brokenTime)
      let s2 := if s1.fe.tx = .lostLate then s1.endLateLoss else s1
      s2.leaveFrame
    else s)

/-- R53: a line has read low for the stuck limit, and this station lets both lines go: the condition is STUCK, and a line that
another station still pulls stays low. -/
def LineIf.toStuck (l : LineIf) (line : Line) (limit : Nat) : LineIf :=
  let l1 : LineIf := { l with
    othersBck := l.othersBck && (line != .bck || l.driveBck)
    bckSeen := l.bckSeen && line != .bck
    othersBda := l.othersBda && (line != .bda || l.driveBda)
    bdaSeen := l.bdaSeen && line != .bda
    bckLow := if line = .bck then max l.bckLow limit else l.bckLow
    bdaLow := if line = .bda then max l.bdaLow limit else l.bdaLow
    cond := .stuck
    frameOpen := false
    seenIdle := false
    yieldOwed := false
    right := false }
  l1.release

/-- STUCK_LIMIT (R53): the condition becomes STUCK, an open frame is abandoned, and BUS_STUCK is reported. R53 names the abandon
with the frame-open mark set. Where the own opening has been driven and its mark not taken, no frame is open and the item is
IN_FLIGHT all the same; counting an attempt for it, as R86 does for an abandon, is the model's choice (log entry 53, DESIGN
CHOICE). -/
def execStuckLimit (line : Line) (s : State) : Result :=
  .next (
    if s.tracks && s.line.cond != .stuck then
      let s1 := s.setLine (s.line.toStuck line s.stuckTime)
      let s2 := if s.line.frameOpen || s.fe.inFrame then s1.abandonFrame else s1
      s2.setReports { s2.reports with busStuck := true }
    else s)

/-- RECOVERY (R54): the condition becomes IDLE with seen-idle set and the quiet count at 64 bit times, and BUS_RECOVERED is
reported. -/
def execRecovery (s : State) : Result :=
  .next (
    if s.tracks && s.line.cond == .stuck then
      let s1 := s.setLine { s.line.othersHigh with
        cond := .idle
        seenIdle := true
        recovery := s.recoveryTime
        quiet := s.recoveryTime }
      s1.setReports { s1.reports with busRecovered := true }
    else s)

/-! ### Marks -/

/-- R46: an opening mark is taken with seen-idle set and the condition IDLE, FRAME without an open frame, or HELD. -/
def LineIf.takesOpening (l : LineIf) : Bool :=
  l.seenIdle && !l.frameOpen && l.cond != .stuck

/-- R46, R79, R69: an opening mark is taken: the frame is open, the right withdrawn, the receive machine leaves HUNT with an
empty buffer; the station is a transmitter of its own opening and otherwise a receiver in JOINING or ACTIVE. -/
def State.openFrame (s : State) : State :=
  let own := s.line.driveBda
  let s1 := s.setLine { (s.line.lowOn .bda) with
    cond := .frame
    frameOpen := true
    right := false
    bckHigh := 0
    phase := .none
    halfTimer := if own then some 0 else none }
  s1.setFe { s1.fe with
    rx := .header
    buf := .initial
    role := if own then .transmitter else if s.onBus then .receiver else .none
    loss := none
    vote := none
    deciding := false }

/-- R43, R44: a fall of BDA while BCK is low: a change of data, and in IDLE a low. -/
def LineIf.dataFall (l : LineIf) : LineIf :=
  if l.cond = .idle then (l.lowOn .bda).loseIdle else l.lowOn .bda

/-- OPENING_MARK (R46): BDA falls. While BCK reads high: in an open frame the fall passes unremarked (R43), where an opening is
taken it opens a frame, and elsewhere it is a low. While BCK reads low it is no mark (log entry 20). -/
def execOpeningMark (s : State) : Result :=
  .next (
    if !s.tracks then s.readLines s.line.bck false
    else if !s.line.bck then s.setLine s.line.dataFall
    else if s.line.takesOpening then s.openFrame
    else s.setLine (s.line.lowOn .bda))

/-- The lines at the end mark: both high, no frame open, and nothing driven (R47). -/
def LineIf.ended (l : LineIf) (yieldOwed : Bool) : LineIf :=
  { l.othersHigh.release with frameOpen := false, yieldOwed := yieldOwed, quiet := 0 }

/-- R70, R86, R91: an end mark before the outcome is fixed: the transmit machine rests, no attempt is counted, and the head is
WAITING as Table 41 has it (log entry 14). -/
def State.endForeign (s : State) : State :=
  s.returnItem.rest

/-- The other stations let BDA go, and what this station had due there is placed: its closing bit's release (R47). -/
def LineIf.bdaRise (l : LineIf) : LineIf :=
  ({ l with othersBda := true } : LineIf).settle.read

/-- END_MARK (R47, R77, R84, R90): BDA rises. While BCK reads high the frame ends, and the yield is owed by a transmitter.
While BCK reads low, or while this station itself still pulls BDA, it is no mark (log entry 20). -/
def execEndMark (s : State) : Result :=
  .next (
    if !s.tracks then s.readLines s.line.bck true
    else if !s.line.bck then s.setLine ({ s.line with othersBda := true } : LineIf).read
    else if s.line.frameOpen && s.line.bdaRise.bda then
      let s1 := s.setLine (s.line.ended (s.fe.role == .transmitter))
      let s2 := match s1.fe.tx with
        | .lostLate => s1.endLateLoss
        | .voting => if s1.fe.outcomeFixed then s1.rest else s1.endForeign
        | .contending => s1.endForeign
        | .sending => s1.endForeign
        | .idle => s1
        | .waiting => s1
      s2.leaveFrame
    else s.setLine { s.line.bdaRise with bdaSeen := s.line.bdaRise.bda })

/-! ### The clock and the bits (R42, R43, R48, R49) -/

/-- R42, R43: a transmitter at a fall: it drives BCK low, begins a low half, and places its bit a quarter bit later. -/
def State.fallAsTransmitter (s : State) : State :=
  s.setLine { s.line.setDriveBck true with phase := .low, halfTimer := some 0, placing := s.placedBit }

/-- R84, R90: a fall beyond the closing bit this station fixed: the frame is followed without part. R84 gives this for a
receiver. For a TRANSMITTER, after its own closing bit, the spec gives nothing (R42 and R47 end its clocking there), and what
stands here is the model's (log entry 43, DESIGN CHOICE): its receive machine goes to DISCARD too and its part ends, the role
stays TRANSMITTER, and it clocks and places nothing more. -/
def State.discardFrame (s : State) : State :=
  let s1 := s.reportPartEnded
  s1.setFe { s1.fe with rx := .discard, deciding := false }

/-- R49, R81, R48: a receiver in JOINING or ACTIVE at the fall that begins position `n`: the lookup hold, the decision
point with its hold, or the level of its vote. -/
def State.fallAsReceiver (s : State) (n : Nat) : State :=
  if n = 35 && s.fe.buf.kind? == some .publish then
    s.setLine { s.line.setDriveBck true with hold := .lookup }
  else if s.fe.buf.bodyLen.map (59 + ·) = some n then
    let holds := s.willVote
    (s.setFe { s.fe with deciding := true }).setLine
      { s.line.setDriveBck holds with hold := if holds then .decision else .none }
  else s.setLine { s.line with placing := s.nextLevel }

/-- The Frame Engine's part at a fall in an open frame, by role and position. Beyond the closing bit of the length fixed, a
receiver follows the frame without part (R84), and a transmitter does so by the model's choice (log entry 43). -/
def State.fallInFrame (s : State) : State :=
  let n := s.fe.buf.count + 1
  let beyond := s.fe.buf.bodyLen.any fun len => decide (62 + len < n)
  match s.fe.rx with
  | .discard => s
  | .hunt => s
  | _ =>
    if beyond then s.discardFrame
    else if s.fe.role = .transmitter then s.fallAsTransmitter
    else if s.fe.role = .receiver && s.onBus then s.fallAsReceiver n
    else s

/-- R46: the station has used its right and its opening mark stands on BDA. -/
def State.ownOpeningDue (s : State) : Bool :=
  s.tracks && s.fe.tx == .contending && s.line.driveBda && s.line.bck && !s.line.frameOpen

/-- R42, R46: the own opening mark that stands on BDA is taken before a fall of BCK that meets it, so that the transmitter
takes that fall as its own first fall. That the mark comes first is the model's reading (log entry 52, DEDUCED). -/
def State.takeOwnOpening (s : State) : State :=
  if s.ownOpeningDue && s.line.takesOpening then s.openFrame else s

/-- BCK_FALL (R42, R49, Table 23): BCK falls. In an open frame, the one of an own opening mark just driven among them (R42), the
fall begins the next position; in IDLE it loses the idle condition; elsewhere it restarts the quiet or the recovery count. A
fall that another station makes while BCK reads low already leaves the line low (log entry 20). -/
def execBckFall (s : State) : Result :=
  .next (
    if !s.tracks then s.readLines false s.line.bda
    else if !s.line.bck && !s.line.bckSeen then s.setLine (s.line.lowOn .bck)
    else
      let s0 := s.takeOwnOpening
      let s1 := s0.setLine { (s0.line.lowOn .bck) with bckLow := 0 }
      if s1.line.frameOpen then s1.fallInFrame
      else if s1.line.cond = .idle then s1.setLine s1.line.loseIdle
      else s1)

/-- CLOCK_HALF_END (R42, R46): the transmitter's low half ends and it releases BCK, or its high half, or the half bit after
its opening mark, ends and it drives BCK low. -/
def execClockHalfEnd (s : State) : Result :=
  .next (
    if s.tracks && s.line.frameOpen && s.fe.role == .transmitter && s.line.halfTimer.isSome then
      s.setLine { s.line.setDriveBck (s.line.phase != .low) with phase := .none, halfTimer := none }
    else s)

/-- BIT_TAKEN (R43): BCK rises. Every rise may be sent as BIT_TAKEN; the three commands below name the rises that lose
contention or close the votes (log entry 7). -/
def execBitTaken (level : Bool) (s : State) : Result :=
  .next (s.rise level)

end Sys2Proof.Machine
end

