-- ==== Sys2Proof/Machine/FrameEngine.lean ====
section
/-! DEFINITION. The commands of the Frame Engine's transmit machine (Chapter 5): losses and the outcome. -/

namespace Sys2Proof.Machine

/-- ARBITRATION_LOSS (R73): the rise of BCK at which a 1 placed in the header reads 0. At any other rise it is no event. -/
def execArbitrationLoss (s : State) : Result :=
  .next (if s.fe.tx = .contending && s.placedBit == some true && s.line.frameOpen then s.rise false else s)

/-- LATE_LOSS (R74): the rise of BCK at which a 1 placed in descriptor, body or check code reads 0. -/
def execLateLoss (s : State) : Result :=
  .next (if s.fe.tx = .sending && s.placedBit == some true && s.line.frameOpen then s.rise false else s)

/-- VOTE_OUTCOME (R85): the rise of BCK at which a transmitter takes the REJECT slot. -/
def execVoteOutcome (level : Bool) (s : State) : Result :=
  .next (
    if s.fe.tx = .voting && !s.fe.outcomeFixed && s.line.frameOpen &&
        s.fe.buf.bodyLen.map (60 + ·) == some s.fe.buf.count then s.rise level
    else s)

end Sys2Proof.Machine
end

