-- ==== Sys2Proof/Machine/Adoption.lean ====
section
/-! DEFINITION. The decision on a received PUBLISH frame (Chapter 2), and the late loss confirmed with it (R75, R76). -/

namespace Sys2Proof.Machine

/-- Table 11: the case a PUBLISH frame falls under, first to last. -/
inductive PublishCase where
  | badCheck
  | malformed
  | tableFull
  | created
  | attributesDiffer
  | ownerDiffers
  | later (held : Entry)
  | sameValue
  | otherValue
  | earlier
  deriving DecidableEq, Repr

/-- R24, Table 11: the first case that applies. -/
def RecordTable.publishCase (t : RecordTable) (good : Bool) (f : PublishContent) : PublishCase :=
  if !good then .badCheck
  else if f.malformed then .malformed
  else match t.find f.tag with
    | none => if maxEntries ≤ t.entries.length then .tableFull else .created
    | some e =>
      if e.cls != f.cls || e.persistent != f.persistent then .attributesDiffer
      else if e.cls == .owned && e.owner != some f.pair.origin then .ownerDiffers
      else if f.pair.later e.pair then .later e
      else if f.pair == e.pair then (if f.value == e.value then .sameValue else .otherValue)
      else .earlier

/-- Table 11, column Vote. -/
def PublishCase.vote : PublishCase → Vote
  | .badCheck => .retry
  | .malformed => .reject
  | .tableFull => .reject
  | .created => .accept
  | .attributesDiffer => .reject
  | .ownerDiffers => .reject
  | .later _ => .accept
  | .sameValue => .accept
  | .otherValue => .reject
  | .earlier => .accept

/-- R28: the entry created from a frame. -/
def PublishContent.newEntry (f : PublishContent) : Entry :=
  ⟨f.tag, f.cls, f.persistent, if f.cls = .owned then some f.pair.origin else none, f.pair, f.value, false, .none, false⟩

/-- R31: the held entry with the frame's version; its pending mark is cleared (R32). -/
def Entry.adopted (e : Entry) (f : PublishContent) : Entry :=
  { e with pair := f.pair, value := f.value, unsent := false }

/-- R28, R31, R32, R35, R36: an adoption and everything that follows it, in one step. `held` is the entry replaced, if any.
The notices are posted in the order OVERTAKEN, CHANGED, COMMIT_FAILED. -/
def State.adopt (s : State) (held : Option Entry) (f : PublishContent) : State :=
  let e := match held with
    | some e => e.adopted f
    | none => f.newEntry
  let s1 := (s.changeEntry e).adoptionReport f.tag f.pair
  let s2 := if held.any (·.unsent) then s1.post (.record .overtaken f.tag f.pair none) else s1
  let s3 := if held.any (·.watch) then s2.post (.record .changed f.tag f.pair none) else s2
  s3.noteUnstored f.tag

/-- Table 11, column Effect, with the suppression of R37 for an accepted frame whose pair is not earlier than the held one. -/
def State.publishEffect (s : State) (f : PublishContent) : PublishCase → State
  | .badCheck => s
  | .malformed => s
  | .tableFull => s.post (.record .tableFull f.tag f.pair none)
  | .created => (s.adopt none f).suppress f.tag
  | .attributesDiffer => s.post (.record .diverged f.tag f.pair (some .attributes))
  | .ownerDiffers => s.post (.record .diverged f.tag f.pair (some .owner))
  | .later e => (s.adopt (some e) f).suppress f.tag
  | .sameValue => s.suppress f.tag
  | .otherValue => s.post (.record .diverged f.tag f.pair (some .value))
  | .earlier => s.claimPublish f.tag

/-- R23, R24: the adoption claim for the PUBLISH frame in the receive buffer, and the vote the table returns. -/
def State.decidePublish (s : State) (f : PublishContent) : State :=
  let c := s.table.publishCase (s.fe.buf.good == some true) f
  (s.publishEffect f c).castVote c.vote

/-- PUBLISH_FRAME (R24): at the decision point of a PUBLISH frame a receiver makes the adoption claim and places the vote. For
a station that lost late and whose loss is confirmed, the late loss is applied in the same step (R75). -/
def execPublishFrame (s : State) : Result :=
  .next (
    if s.atDecision .publish then
      match s.fe.buf.content with
      | some (.publish f) =>
        if s.fe.lossConfirmed then (s.decidePublish f).applyLateLoss else s.decidePublish f
      | _ => s
    else s)

/-- LATE_LOSS_CONFIRMED (R75, R76): for PUBLISH at the decision point, the decision and then the late loss; for the other kinds
at the check result, DUPLICATE_ID is reported, no vote is placed and no hold made. -/
def execLateLossConfirmed (s : State) : Result :=
  .next (
    if s.onBus && s.fe.lossConfirmed then
      match s.fe.buf.content with
      | some (.publish f) => if s.fe.deciding then (s.decidePublish f).applyLateLoss else s
      | some _ => s.castNone.reportDuplicate
      | none => s
    else s)

end Sys2Proof.Machine
end

