-- ==== Sys2Proof/Machine/SyncUnit.lean ====
section
/-! DEFINITION. The commands of the Sync Unit: received BEACON, DIGEST and PULL frames (Chapters 7 and 8) and its timers. -/

namespace Sys2Proof.Machine

/-! ### The Peer Roster (R106 to R112) -/

/-- The roster entry of a station. -/
def SyncUnit.peer (y : SyncUnit) (id : StationId) : Option PeerEntry :=
  y.roster.find? fun p => p.station == id

/-- R106: an entry takes its place in station-ID order. -/
def insertPeer (p : PeerEntry) : List PeerEntry → List PeerEntry
  | [] => [p]
  | x :: rest => if p.station.toNat < x.station.toNat then p :: x :: rest else x :: insertPeer p rest

/-- The roster with the entry of a station changed. -/
def SyncUnit.modifyPeer (y : SyncUnit) (id : StationId) (f : PeerEntry → PeerEntry) : SyncUnit :=
  { y with roster := y.roster.map fun p => if p.station == id then f p else p }

/-- R107: the entry a beacon creates. -/
def BeaconContent.newPeer (f : BeaconContent) : PeerEntry :=
  ⟨f.sender, false, f.incarnation, f.period, f.joining, f.count, f.summary, some 0⟩

/-- R108: a held entry brought up to date from a beacon. -/
def PeerEntry.heard (p : PeerEntry) (f : BeaconContent) : PeerEntry :=
  { p with silent := false, incarnation := f.incarnation, period := f.period, joining := f.joining, count := f.count,
           summary := f.summary, timer := some 0 }

/-- R107, R108, Table 57: what a beacon does to the roster, with its notices in order. -/
def State.rosterBeacon (s : State) (f : BeaconContent) : State :=
  match s.sync.peer f.sender with
  | none =>
    if s.sync.roster.length < maxPeers then
      (s.setSync { s.sync with roster := insertPeer f.newPeer s.sync.roster }).post (.peer .peerJoined f.sender)
    else s
  | some p =>
    let s1 := s.setSync (s.sync.modifyPeer f.sender fun p => p.heard f)
    let s2 := if p.silent then s1.post (.peer .peerReturned f.sender) else s1
    if p.incarnation != f.incarnation then s2.post (.peer .peerRestarted f.sender) else s2

/-- R115: the comparison of a beacon's figures with the own table's; a mismatch with a higher sender starts a run. -/
def State.compareTables (s : State) (f : BeaconContent) : State :=
  if (f.count != s.table.count || f.summary != s.table.summary) &&
      decide (s.control.ownId.toNat < f.sender.toNat) && !s.sync.runActive then s.startRun
  else s

/-- R109: a DIGEST or PULL proves that its sender is there. -/
def State.rosterHeard (s : State) (sender : StationId) : State :=
  match s.sync.peer sender with
  | none => s
  | some p =>
    let s1 := s.setSync (s.sync.modifyPeer sender fun p => { p with silent := false, timer := some 0 })
    if p.silent then s1.post (.peer .peerReturned sender) else s1

/-! ### Digests and pulls (R125, R130) -/

/-- A tag placed in an ascending list of distinct tags. -/
def insertTag (tag : Tag) : List Tag → List Tag
  | [] => [tag]
  | x :: rest =>
    if tag.toNat < x.toNat then tag :: x :: rest else if tag == x then x :: rest else x :: insertTag tag rest

/-- R125: the held tags of a range. -/
def RecordTable.tagsIn (t : RecordTable) (start stop : Tag) : List Tag :=
  (t.entries.map (·.tag)).filter fun tag => decide (start.toNat ≤ tag.toNat) && decide (tag.toNat ≤ stop.toNat)

/-- R125: every listed tag and every held tag of the range, in ascending order. -/
def State.digestTags (s : State) (f : DigestContent) : List Tag :=
  ((f.listed.map (·.tag)) ++ s.table.tagsIn f.start f.stop).foldr insertTag []

/-- R125, Table 62: the action on one tag. -/
def State.digestTag (s : State) (listed : List Listed) (tag : Tag) : State :=
  match listed.find? (fun l => l.tag == tag), s.table.find tag with
  | some l, none => s.enterWanted tag l.pair
  | some l, some e =>
    if l.pair.later e.pair then s.enterWanted tag l.pair
    else if l.pair == e.pair then s
    else s.claimPublish tag
  | none, some _ => s.claimPublish tag
  | none, none => s

/-- R125: the comparison of a DIGEST with the table. -/
def State.compareDigest (s : State) (f : DigestContent) : State :=
  (s.digestTags f).foldl (fun s tag => s.digestTag f.listed tag) s

/-- R130: the action on one tag of a PULL: a reply for a held tag, and pull suppression for a wanted one. -/
def State.pullTag (s : State) (tag : Tag) : State :=
  let s1 := if (s.table.find tag).isSome then s.claimPublish tag else s
  s1.setSync { s1.sync with
    wanted := s1.sync.wanted.map fun w => if w.tag == tag then { w with nextAsk := s.now + s.control.ownPeriod } else w }

/-- R130: the answer to a PULL. -/
def State.answerPull (s : State) (f : PullContent) : State :=
  f.tags.foldl State.pullTag s

/-! ### The decision on BEACON, DIGEST and PULL frames (R82, R83) -/

/-- R82, R83: the vote on a frame of another kind than PUBLISH: RETRY on a bad check code, REJECT on a malformed frame, none
and DUPLICATE_ID on a frame of the own ID, else ACCEPT with the content handed over (`hand`) in the same step. -/
def State.decideOther (s : State) (c : FrameContent) (sender : StationId) (hand : State → State) : State :=
  if s.fe.buf.good != some true then s.castVote .retry
  else if !c.wellFormed then s.castVote .reject
  else if sender == s.control.ownId then s.castNone.reportDuplicate
  else (hand s).castVote .accept

/-- BEACON_FRAME (R107, R108, R115). -/
def execBeaconFrame (s : State) : Result :=
  .next (
    if s.atDecision .beacon && !s.fe.lossConfirmed then
      match s.fe.buf.content with
      | some (.beacon f) => s.decideOther (.beacon f) f.sender fun s => (s.rosterBeacon f).compareTables f
      | _ => s
    else s)

/-- DIGEST_FRAME (R109, R125, R126). -/
def execDigestFrame (s : State) : Result :=
  .next (
    if s.atDecision .digest && !s.fe.lossConfirmed then
      match s.fe.buf.content with
      | some (.digest f) => s.decideOther (.digest f) f.sender fun s => (s.rosterHeard f.sender).compareDigest f
      | _ => s
    else s)

/-- PULL_FRAME (R109, R130). -/
def execPullFrame (s : State) : Result :=
  .next (
    if s.atDecision .pull && !s.fe.lossConfirmed then
      match s.fe.buf.content with
      | some (.pull f) => s.decideOther (.pull f) f.sender fun s => (s.rosterHeard f.sender).answerPull f
      | _ => s
    else s)

/-! ### Timers

A timer that shows 0 was started in this very moment and cannot have reached its time: an expiry that waits behind the event
that restarted its timer does not occur (R112, R133; log entry 5). -/

/-- A timer runs, and not from this very moment. -/
def hasRun (timer : Option Nat) : Bool :=
  timer.any fun t => decide (0 < t)

/-- BEACON_TIMER (R113, R121, R127): the timer starts again, and the beacon, DIGEST and PULL claims are made in that order. -/
def execBeaconTimer (s : State) : Result :=
  .next (
    if s.onBus && hasRun s.sync.beaconTimer then
      (((s.setSync { s.sync with beaconTimer := some 0 }).append .beacon).claimDigest).claimPull
    else s)

/-- SILENCE_TIMEOUT (R110, R112): a PRESENT entry whose timer runs becomes SILENT, and PEER_LOST is posted. Behind the receipt of
a frame from the peer, which restarts the timer, the expiry does not occur. -/
def execSilenceTimeout (station : StationId) (s : State) : Result :=
  .next (
    match s.sync.peer station with
    | some p =>
      if s.onBus && !p.silent && hasRun p.timer then
        (s.setSync (s.sync.modifyPeer station fun p => { p with silent := true, timer := none })).post
          (.peer .peerLost station)
      else s
    | none => s)

/-- LISTEN_WINDOW_END (R120). -/
def execListenWindowEnd (s : State) : Result :=
  .next (
    if s.control.link == .joining && hasRun s.sync.listen then
      let s1 := (s.setSync { s.sync with listen := none }).startRun
      s1.setSync { s1.sync with joinDigest := .running }
    else s)

/-- R131: the settle timer runs, and not from this very moment. -/
def SettleTimer.hasRun : SettleTimer → Bool
  | .running t => decide (0 < t)
  | .stopped => false
  | .elapsed => false

/-- SETTLE_ELAPSED (R131, R132, R133). -/
def execSettleElapsed (s : State) : Result :=
  .next (
    if s.control.link == .joining && s.sync.settle.hasRun then
      (s.setSync { s.sync with settle := .elapsed }).testReady
    else s)

/-- R128, R130: an entry's next-ask time can have come: it was not set one answer wait on in this very moment. -/
def State.askCanCome (s : State) (w : WantedEntry) : Bool :=
  decide (w.nextAsk < s.now + s.control.ownPeriod)

/-- NEXT_ASK_DUE (R127): the entry's next-ask time has come with asks below 3; a PULL item is claimed. -/
def execNextAskDue (tag : Tag) (s : State) : Result :=
  .next (
    if s.onBus && s.sync.wanted.any (fun w => w.tag == tag && decide (w.asks < maxAsks) && s.askCanCome w) then
      (s.setSync { s.sync with
        wanted := s.sync.wanted.map fun w => if w.tag == tag then { w with nextAsk := min w.nextAsk s.now } else w }).claimPull
    else s)

/-- PULL_UNANSWERED (R127, R132): the next-ask time of an entry at 3 asks has come; it is removed with its notice. Its tag leaves
the pull list too: the model's choice, since R129 says so of an adoption alone (log entry 45). -/
def execPullUnanswered (tag : Tag) (s : State) : Result :=
  .next (
    match s.sync.wanted.find? (fun w => w.tag == tag) with
    | some w =>
      if s.onBus && decide (maxAsks ≤ w.asks) && s.askCanCome w then
        ((s.setSync { s.sync with
          wanted := s.sync.wanted.filter fun x => x.tag != tag
          pullList := s.sync.pullList.filter fun t => t != tag }).post
            (.record .pullUnanswered tag w.pair none)).testReady
      else s
    | none => s)

end Sys2Proof.Machine
end

