-- ==== Sys2Proof/Machine/StationControl.lean ====
section
/-! DEFINITION. The commands of Station Control (Chapter 10): the reports it takes, the starts, and the supply watch. A
report is taken by its command whether or not the model holds it outstanding (log entry 6). -/

namespace Sys2Proof.Machine

/-! ### Reports (R159, R161) -/

/-- R161: a DUPLICATE_ID taken while a quiesce waits completes the request, with no further move or notice. -/
def State.endWaiting (s : State) : State :=
  if s.control.quiesceWaiting then (s.setControl { s.control with quiesceWaiting := false }).answer .ok [] else s

/-- DUPLICATE_ID (R159, R160, R161): from JOINING or ACTIVE the station moves to QUIESCED. -/
def execDuplicateId (s : State) : Result :=
  let s1 := s.setReports { s.reports with duplicateId := false }
  .next (if s1.onBus then (s1.toQuiesced .duplicateId).endWaiting else s1)

/-- BUS_STUCK (R159): from JOINING or ACTIVE the station moves to FAULTED. A waiting quiesce goes on waiting (R161). -/
def execBusStuck (s : State) : Result :=
  let s1 := s.setReports { s.reports with busStuck := false }
  .next (if s1.onBus then s1.toFaulted else s1)

/-- BUS_RECOVERED (R159): from FAULTED the station moves to JOINING. -/
def execBusRecovered (s : State) : Result :=
  let s1 := s.setReports { s.reports with busRecovered := false }
  .next (if s1.control.link = .faulted then (s1.move .joining .busRecovered).enterJoining else s1)

/-- R132, R118: the Sync Unit at the move to ACTIVE: the beacon timer keeps running, and the two timers used in JOINING
alone stand stopped (R131; log entry 29). -/
def SyncUnit.enterActive (y : SyncUnit) : SyncUnit :=
  { y with listen := none, settle := .stopped }

/-- JOIN_COMPLETE (R159, R132): from JOINING the station moves to ACTIVE. -/
def execJoinComplete (s : State) : Result :=
  let s1 := s.setReports { s.reports with joinComplete := false }
  .next (
    if s1.control.link = .joining then
      let s2 := s1.move .active .joinComplete
      s2.setSync s2.sync.enterActive
    else s1)

/-- R161: the link states in which a waiting quiesce completes with a move. -/
def LinkState.completesQuiesce : LinkState → Bool
  | .joining => true
  | .active => true
  | .faulted => true
  | .quiesced => false
  | .start => false
  | .frozen => false

/-- QUIESCE_COMPLETE (R161): the part in the frame has ended, and a waiting quiesce completes with the move to QUIESCED. -/
def execQuiesceComplete (s : State) : Result :=
  let s1 := if s.control.quiesceWaiting && s.control.link.completesQuiesce then s.completeQuiesce else s
  .next (s1.setReports { s1.reports with partEnded := false })

/-! ### Starts (R157, R158) -/

/-- POWER_UP (R157, R150): the supply rises from off; no operation is in progress, and what was in progress when the supply
went is cut short (R137). -/
def execPowerUp (pfail : Bool) (s : State) : Result :=
  .next ({ s with pfailPin := pfail }.startCuttingOp)

/-- RESET_ASSERT (R157, R167): the station enters START with cause PIN. Whether a shorter assertion is taken is log entry 13. -/
def execResetAssert (lasting : Bool) (s : State) : Result :=
  let s1 := if lasting then s else s.useFree 1
  .next (if lasting || Config.shortResetTaken s.free then { s1 with resetPin := true }.startKeepingOp .pin else s1)

/-- RESET_RELEASE (R158 step 1): a start that waits for RESET waits for it no longer. -/
def execResetRelease (s : State) : Result :=
  .next { s with resetPin := false }

/-- START_SEQUENCE (R158): once the wait of step 1 has ended, the configuration read, the load scan, and the begin of the
incarnation write. -/
def execStartSequence (s : State) : Result :=
  .next (if s.control.link = .start && s.startWaitEnded then s.runStart else s)

/-! ### Supply watch (R163 to R166) -/

/-- R163: the watch takes a new value and its filter restarts. -/
def State.setWatch (s : State) (w : SupplyWatch) : State :=
  s.setControl { s.control with watch := w, filter := 0 }

/-- R164, R166: a supply-low by the action in force. -/
def State.takeSupplyLow (s : State) : State :=
  match s.control.action with
  | .freeze => s.toFrozen
  | .restart => s.startCuttingOp

/-- R163: an edge of PFAIL: the level changes and the filter restarts, since what it counted has been broken off. Where PFAIL
has that level already there is no edge. -/
def State.pfailEdge (s : State) (asserted : Bool) : State :=
  if s.pfailPin = asserted then s
  else { s with pfailPin := asserted }.setControl { s.control with filter := 0 }

/-- SUPPLY_LOW (R163, R164, R166): with the watch GOOD, PFAIL has been asserted for 100 microseconds. In START the watch alone
changes. An assertion that has not lasted is an edge of PFAIL and no more (log entry 47). -/
def execSupplyLow (s : State) (lasting : Bool := true) : Result :=
  let s1 := { s with pfailPin := true }
  .next (
    if !lasting then s.pfailEdge true
    else if s.control.watch = .low then s1
    else match s.control.link with
      | .start => s1.setWatch .low
      | .frozen => s1.setWatch .low
      | .quiesced => s1.takeSupplyLow
      | .joining => s1.takeSupplyLow
      | .active => s1.takeSupplyLow
      | .faulted => s1.takeSupplyLow)

/-- SUPPLY_GOOD (R163, R165): with the watch LOW, PFAIL has been released for 100 microseconds. In FROZEN the station moves to
the return state; in START the wait of step 1 may end. A release that has not lasted is an edge of PFAIL and no more (log
entry 47). -/
def execSupplyGood (s : State) (lasting : Bool := true) : Result :=
  let s1 := { s with pfailPin := false }
  .next (
    if !lasting then s.pfailEdge false
    else if s.control.watch = .good then s1
    else if s.control.link = .frozen then s1.leaveFrozen
    else s1.setWatch .good)

end Sys2Proof.Machine
end

