-- ==== Sys2Proof/Machine/RetainedStore.lean ====
section
/-! DEFINITION. The commands of the Retained Store's write engine (Chapter 9). -/

namespace Sys2Proof.Machine

/-! ### Starts of operations (R142, R146 to R148) -/

/-- R146: the engine is free, in a link state in which it takes commits and requests. -/
def State.engineTakes (s : State) : Bool :=
  s.control.link.storeRuns && s.store.engine.op.isNone

/-- COMMIT_START (R142, R140): the engine takes the head of the Commit Queue while no request is pending. -/
def execCommitStart (s : State) : Result :=
  .next (
    if s.engineTakes && s.store.request.isNone then
      match s.store.commitQ with
      | [] => s
      | tag :: _ =>
        match s.table.find tag, pairFor s.store.pairMap tag with
        | some e, some pair => s.startCommitOn e pair
        | some _, none => s.dropHead tag
        | none, _ => s
    else s)

/-- CONFIG_WRITE_START (R146, R147). -/
def execConfigWriteStart (s : State) : Result :=
  .next (
    match s.store.request with
    | some (.configWrite f) =>
      if s.engineTakes then (s.setStore { s.store with request := none }).beginOp (.configWrite f) else s
    | _ => s)

/-- WIPE_START (R146, R148): the first changes of a WIPE, and the erase of pair 0 begins. -/
def execWipeStart (s : State) : Result :=
  .next (
    match s.store.request with
    | some .wipe =>
      if s.engineTakes then ((s.setStore { s.store with request := none }).clearStored).beginOp (.wipe 0 true) else s
    | _ => s)

/-! ### Ends of writes (R144, R145, R147, R148, R152) -/

/-- The pair map with one pair's entry changed. -/
def State.modifyPair (s : State) (pair : Nat) (f : PairMapEntry → PairMapEntry) : State :=
  s.setPairMap (s.store.pairMap.modify pair f)

/-- R144, R145, R147, R148, R152: the write ended with a verify that matched. A result to be discarded (R150) leaves its mark
on the array and the pair map alone (log entry 25). -/
def State.opSucceeds (s : State) (op : StoreOp) : State :=
  let s1 := s.setArray (s.store.array.written op)
  match op with
  | .commit tag pair target _ changed =>
    let s2 := s1.modifyPair pair fun e => e.verified target
    if s.store.engine.discard then s2.freeEngine else s2.endCommit tag changed .clean
  | .configWrite _ => if s.store.engine.discard then s1.freeEngine else s1.freeEngine.answer .ok []
  | .wipe pair allFreed => (s1.modifyPair pair fun _ => .free).nextWipe pair allFreed
  | .incarnation _ _ => if s.store.engine.discard then s1.freeEngine else s1.freeEngine.leaveStart

/-- R145, R147, R148, R152: the second failure. -/
def State.opFailsFinally (s : State) (op : StoreOp) : State :=
  match op with
  | .commit tag _ _ _ changed =>
    if s.store.engine.discard then s.freeEngine
    else (s.endCommit tag changed .failed).post (.commitFailed (some tag) .verify)
  | .configWrite _ => if s.store.engine.discard then s.freeEngine else s.freeEngine.answer .storeFailed []
  | .wipe pair _ => (s.modifyPair pair PairMapEntry.spoil).nextWipe pair false
  | .incarnation _ _ =>
    if s.store.engine.discard then s.freeEngine
    else (s.freeEngine.post (.commitFailed none .verify)).leaveStart

/-- R145: a failed attempt: the first is followed by the rewrite, the second ends the operation (for a WIPE, the pair). -/
def State.opFails (s : State) (op : StoreOp) : State :=
  if s.store.engine.failures = 0 then s.rewrite op else s.opFailsFinally op

/-- WRITE_DONE (R144, R149): the array reports write-done; a report for a write that was stopped or abandoned is
disregarded. -/
def execWriteDone (current good : Bool) (s : State) : Result :=
  .next (
    match s.store.engine.op with
    | none => s
    | some op =>
      if !current then s
      else if good then s.opSucceeds op
      else ((s.setArray (s.store.array.misread s.free op)).useFree 2).opFails op)

/-- WRITE_LIMIT (R144): the write limit timer reaches 12 ms; the write is stopped and the attempt fails. A write that began in
this very moment cannot have reached it (log entry 5): where write-done is taken first, it decides. The erase of a pair under
WIPE that ends so is a failed erase, and its slots are not read back: R148 does not say, and that is the model's choice (log
entry 54, DESIGN CHOICE). -/
def execWriteLimit (s : State) : Result :=
  .next (
    match s.store.engine.op with
    | none => s
    | some op =>
      if s.store.engine.timer = 0 then s
      else ((s.setArray (s.store.array.cutShort s.free op)).useFree 2).opFails op)

end Sys2Proof.Machine
end

