-- ==== Sys2Proof/Machine/Dispatch.lean ====
section
/-! DEFINITION. One arm for each command: a direct call of its meaning. -/

namespace Sys2Proof.Machine

def exec (i : Instr) (s : State) : Host.Outcome State Fault Refusal :=
  match i with
  | .transactionBegin empty => Sys2Proof.Machine.execTransactionBegin s empty
  | .read args => Sys2Proof.Machine.execRead args s
  | .nextTag args => Sys2Proof.Machine.execNextTag args s
  | .write args => Sys2Proof.Machine.execWrite args s
  | .watch args => Sys2Proof.Machine.execWatch args s
  | .status args => Sys2Proof.Machine.execStatus args s
  | .peers args => Sys2Proof.Machine.execPeers args s
  | .notice args => Sys2Proof.Machine.execNotice args s
  | .quiesce args => Sys2Proof.Machine.execQuiesce args s
  | .resume args => Sys2Proof.Machine.execResume args s
  | .configRead args => Sys2Proof.Machine.execConfigRead args s
  | .configWrite args => Sys2Proof.Machine.execConfigWrite args s
  | .wipe args => Sys2Proof.Machine.execWipe args s
  | .restart args => Sys2Proof.Machine.execRestart args s
  | .fetch clocked => Sys2Proof.Machine.execFetch clocked s
  | .quietGap => Sys2Proof.Machine.execQuietGap s
  | .idleLost line => Sys2Proof.Machine.execIdleLost line s
  | .rightToOpen => Sys2Proof.Machine.execRightToOpen s
  | .openingMark => Sys2Proof.Machine.execOpeningMark s
  | .arbitrationLoss => Sys2Proof.Machine.execArbitrationLoss s
  | .lateLoss => Sys2Proof.Machine.execLateLoss s
  | .lateLossConfirmed => Sys2Proof.Machine.execLateLossConfirmed s
  | .publishFrame => Sys2Proof.Machine.execPublishFrame s
  | .beaconFrame => Sys2Proof.Machine.execBeaconFrame s
  | .digestFrame => Sys2Proof.Machine.execDigestFrame s
  | .pullFrame => Sys2Proof.Machine.execPullFrame s
  | .voteOutcome level => Sys2Proof.Machine.execVoteOutcome level s
  | .endMark => Sys2Proof.Machine.execEndMark s
  | .holdLimit => Sys2Proof.Machine.execHoldLimit s
  | .frameBroken => Sys2Proof.Machine.execFrameBroken s
  | .stuckLimit line => Sys2Proof.Machine.execStuckLimit line s
  | .recovery => Sys2Proof.Machine.execRecovery s
  | .duplicateId => Sys2Proof.Machine.execDuplicateId s
  | .busStuck => Sys2Proof.Machine.execBusStuck s
  | .busRecovered => Sys2Proof.Machine.execBusRecovered s
  | .joinComplete => Sys2Proof.Machine.execJoinComplete s
  | .quiesceComplete => Sys2Proof.Machine.execQuiesceComplete s
  | .powerUp pfail => Sys2Proof.Machine.execPowerUp pfail s
  | .resetAssert lasting => Sys2Proof.Machine.execResetAssert lasting s
  | .resetRelease => Sys2Proof.Machine.execResetRelease s
  | .startSequence => Sys2Proof.Machine.execStartSequence s
  | .supplyLow lasting => Sys2Proof.Machine.execSupplyLow s lasting
  | .supplyGood lasting => Sys2Proof.Machine.execSupplyGood s lasting
  | .beaconTimer => Sys2Proof.Machine.execBeaconTimer s
  | .silenceTimeout station => Sys2Proof.Machine.execSilenceTimeout station s
  | .listenWindowEnd => Sys2Proof.Machine.execListenWindowEnd s
  | .settleElapsed => Sys2Proof.Machine.execSettleElapsed s
  | .nextAskDue tag => Sys2Proof.Machine.execNextAskDue tag s
  | .pullUnanswered tag => Sys2Proof.Machine.execPullUnanswered tag s
  | .commitStart => Sys2Proof.Machine.execCommitStart s
  | .configWriteStart => Sys2Proof.Machine.execConfigWriteStart s
  | .wipeStart => Sys2Proof.Machine.execWipeStart s
  | .writeDone current good => Sys2Proof.Machine.execWriteDone current good s
  | .writeLimit => Sys2Proof.Machine.execWriteLimit s
  | .bitTaken level => Sys2Proof.Machine.execBitTaken level s
  | .bckFall => Sys2Proof.Machine.execBckFall s
  | .clockHalfEnd => Sys2Proof.Machine.execClockHalfEnd s
  | .notACommandCode code args => Sys2Proof.Machine.execNotACommandCode code args s

end Sys2Proof.Machine
end

