-- ==== Sys2Proof/Machine/Clock.lean ====
section
/-! DEFINITION. What time does to the station while no command waits (log entry 4): one quantum of 0.25 microsecond passes,
and then the events that have come due are taken, each by the meaning of its own command, in one fixed order. -/

namespace Sys2Proof.Machine

/-! ### One quantum passes -/

/-- R44, R50, R52, R53, R54: the counts of the levels on the lines. -/
def LineIf.countLevels (l : LineIf) : LineIf :=
  let both := l.bck && l.bda
  { l with
    quiet := if both && l.cond != .stuck then l.quiet + 1 else 0
    recovery := if both && l.cond == .stuck then l.recovery + 1 else 0
    bckLow := if l.bck then 0 else l.bckLow + 1
    bdaLow := if l.bda then 0 else l.bdaLow + 1
    bckHigh := if l.bck then l.bckHigh + 1 else 0
    halfTimer := l.halfTimer.map (· + 1) }

/-- R42: a fall of BCK that this station's own pull makes, not yet taken. That a step on an empty queue raises such an edge is
the model's choice (log entry 44, DESIGN CHOICE). -/
def LineIf.fallPending (l : LineIf) : Bool :=
  l.bckSeen && !l.bck

/-- R42: a rise of BCK that this station's own release makes, not yet taken (log entry 44). -/
def LineIf.risePending (l : LineIf) : Bool :=
  !l.bckSeen && l.bck

/-- R47: a rise of BDA while BCK is high that this station's own release makes, not yet taken (log entry
44). -/
def LineIf.endPending (l : LineIf) : Bool :=
  l.frameOpen && l.bck && l.bda && !l.bdaSeen

/-- R43, R47, R48: a level due on BDA is placed a quarter bit time after the last edge of BCK. -/
def LineIf.placeDue (l : LineIf) (quarter : Nat) : LineIf :=
  if quarter ≤ (if l.bck then l.bckHigh else l.bckLow) then l.settle else l

/-- R49: a lookup hold ends when the lookup is done, which the model takes to be at the first quantum (log entry 9). -/
def LineIf.endLookup (l : LineIf) : LineIf :=
  if l.hold = .lookup then { l.setDriveBck false with hold := .none } else l

/-- The Line Interface over one quantum, in the link states that track the lines (R55). -/
def State.lineAfter (s : State) : LineIf :=
  if s.tracks then (s.line.countLevels.placeDue s.quarterBit).endLookup else s.line

/-- R131: the settle timer over one quantum. -/
def SettleTimer.advance : SettleTimer → SettleTimer
  | .running t => .running (t + 1)
  | .stopped => .stopped
  | .elapsed => .elapsed

/-- R110, R113, R119, R131: the running timers of the Sync Unit over one quantum; a stopped timer is absent. -/
def SyncUnit.advance (y : SyncUnit) : SyncUnit :=
  { y with
    roster := y.roster.map fun p => { p with timer := p.timer.map (· + 1) }
    beaconTimer := y.beaconTimer.map (· + 1)
    listen := y.listen.map (· + 1)
    settle := y.settle.advance }

/-- R163: PFAIL differs from the watch. -/
def State.pfailDiffers (s : State) : Bool :=
  watchOf s.pfailPin != s.control.watch

/-- R163: the filter of PFAIL over one quantum. -/
def State.filterAfter (s : State) : Nat :=
  if s.pfailDiffers then s.control.filter + 1 else 0

/-- R142, R144: the write limit timer over one quantum. -/
def WriteEngine.advance (g : WriteEngine) : WriteEngine :=
  { g with timer := if g.op.isSome then g.timer + 1 else 0 }

/-- The station after one quantum, before any event is taken. -/
def State.advance (s : State) : State :=
  { s with
    now := s.now + 1
    line := s.lineAfter
    sync := s.sync.advance
    store := { s.store with engine := s.store.engine.advance }
    control := { s.control with filter := s.filterAfter } }

/-! ### The events that have come due -/

/-- A command, if its event has come due. -/
def dueIf (b : Bool) (c : Instr) : Option Instr :=
  if b then some c else none

/-- R81, R75, R76: the decision on the frame taken. -/
def State.dueDecision (s : State) : Option Instr :=
  if s.onBus && s.fe.lossConfirmed && !s.reports.duplicateId &&
      (s.fe.deciding || s.fe.buf.kind? != some .publish) then some .lateLossConfirmed
  else if s.fe.deciding && s.onBus then
    match s.fe.buf.kind? with
    | some .publish => some .publishFrame
    | some .beacon => some .beaconFrame
    | some .digest => some .digestFrame
    | some .pull => some .pullFrame
    | none => none
  else none

/-- R45: the right to open is due: not yet given, or given and now there is an item to open. -/
def State.rightDue (s : State) : Bool :=
  s.onBus && s.line.cond == .idle && decide (s.openTime ≤ s.line.quiet) && (!s.line.right || s.fe.tx == .waiting)

/-- R42: the end of the half being timed. -/
def State.halfDue (s : State) : Bool :=
  s.tracks && s.line.frameOpen && s.fe.role == .transmitter &&
    match s.line.halfTimer with
    | some t => decide (s.halfBit ≤ t)
    | none => false

/-- R44, R51: the quiet gap is complete. -/
def State.quietDue (s : State) : Bool :=
  s.tracks && !s.line.frameOpen && (s.line.cond == .frame || s.line.cond == .held) && decide (s.quietGapTime ≤ s.line.quiet)

/-- R53: a line has been low for the stuck limit. -/
def State.stuckDue (s : State) (low : Nat) : Bool :=
  s.tracks && s.line.cond != .stuck && decide (s.stuckTime ≤ low)

/-- R113: the beacon timer has reached the own period. -/
def State.beaconDue (s : State) : Bool :=
  s.onBus && s.sync.beaconTimer.any fun t => decide (s.control.ownPeriod ≤ t)

/-- R110: the silence timer of a station has reached three declared periods. -/
def State.silenceDue (s : State) (id : StationId) : Bool :=
  s.onBus && s.sync.roster.any fun p => p.station == id && !p.silent && p.timer.any fun t => decide (p.timeout ≤ t)

/-- R131: the settle timer has reached one own period. -/
def State.settleDue (s : State) : Bool :=
  s.control.link == .joining &&
    match s.sync.settle with
    | .running t => decide (s.control.ownPeriod ≤ t)
    | .stopped => false
    | .elapsed => false

/-- R127: the next-ask time of a tag has come, with asks left. -/
def State.askDue (s : State) (tag : Tag) : Bool :=
  s.onBus && s.sync.wanted.any fun w => w.tag == tag && decide (w.asks < maxAsks) && decide (w.nextAsk = s.now)

/-- R127: the next-ask time of a tag has come at three asks. -/
def State.expiryDue (s : State) (tag : Tag) : Bool :=
  s.onBus && s.sync.wanted.any fun w => w.tag == tag && decide (maxAsks ≤ w.asks) && decide (w.nextAsk ≤ s.now)

/-- R144: the write limit timer has reached 12 ms. -/
def State.limitDue (s : State) : Bool :=
  s.store.engine.op.isSome && decide (writeLimitTime ≤ s.store.engine.timer)

/-- R163: PFAIL has differed from the watch for 100 microseconds. -/
def State.filterDue (s : State) : Bool :=
  s.pfailDiffers && decide (filterTime ≤ s.control.filter)

/-- Every event that time or a report can bring, as a test of the state that names its command, in the order in which they are
taken (log entry 4). `ids` and `tags` are the stations and wanted tags asked about. -/
def dueTests (ids : List StationId) (tags : List Tag) : List (State → Option Instr) :=
  [fun s => dueIf s.reports.duplicateId .duplicateId,
   fun s => dueIf s.reports.busStuck .busStuck,
   fun s => dueIf s.reports.busRecovered .busRecovered,
   fun s => dueIf s.reports.joinComplete .joinComplete,
   fun s => dueIf s.reports.partEnded .quiesceComplete,
   State.dueDecision,
   fun s => dueIf (s.tracks && s.line.frameOpen && decide (s.holdTime < s.line.bckLow)) .holdLimit,
   fun s => dueIf (s.stuckDue s.line.bckLow) (.stuckLimit .bck),
   fun s => dueIf (s.stuckDue s.line.bdaLow) (.stuckLimit .bda),
   fun s => dueIf (s.tracks && s.line.cond == .stuck && decide (s.recoveryTime ≤ s.line.recovery)) .recovery,
   fun s => dueIf (s.tracks && s.line.frameOpen && s.fe.role != .transmitter && decide (s.brokenTime < s.line.bckHigh))
     .frameBroken,
   fun s => dueIf s.quietDue .quietGap,
   fun s => dueIf s.halfDue .clockHalfEnd,
   fun s => dueIf (s.tracks && s.line.fallPending) .bckFall,
   fun s => dueIf (s.tracks && s.line.risePending) (.bitTaken s.line.othersBda),
   fun s => dueIf (s.tracks && s.line.endPending) .endMark,
   fun s => dueIf s.beaconDue .beaconTimer] ++
  ids.map (fun id s => dueIf (s.silenceDue id) (.silenceTimeout id)) ++
  [fun s => dueIf (s.control.link == .joining && s.sync.listen.any fun t => decide (2 * s.control.ownPeriod ≤ t))
     .listenWindowEnd,
   fun s => dueIf s.settleDue .settleElapsed] ++
  tags.map (fun tag s => dueIf (s.askDue tag) (.nextAskDue tag)) ++
  tags.map (fun tag s => dueIf (s.expiryDue tag) (.pullUnanswered tag)) ++
  [fun s => dueIf s.rightDue .rightToOpen,
   fun s => dueIf s.ownOpeningDue .openingMark,
   fun s => dueIf s.limitDue .writeLimit,
   fun s => dueIf (s.engineTakes && s.store.request.isSome) .configWriteStart,
   fun s => dueIf (s.engineTakes && s.store.request.isSome) .wipeStart,
   fun s => dueIf (s.engineTakes && s.store.request.isNone && !s.store.commitQ.isEmpty) .commitStart,
   fun s => dueIf (s.control.link == .start && s.startWaitEnded) .startSequence,
   fun s => dueIf (s.filterDue && s.pfailPin) (.supplyLow true),
   fun s => dueIf (s.filterDue && !s.pfailPin) (.supplyGood true)]

/-- One event taken by its command's meaning, if it is due. -/
def takeDue (r : Result) (test : State → Option Instr) : Result :=
  match r with
  | .next s =>
    match test s with
    | some c => exec c s
    | none => .next s
  | .fault f => .fault f
  | .refused f => .refused f

/-- The station over one quantum: time passes, and then what has come due is taken. -/
def State.tick (s : State) : Result :=
  let s1 := s.advance
  (dueTests (s1.sync.roster.map (·.station)) (s1.sync.wanted.map (·.tag))).foldl takeDue (.next s1)

end Sys2Proof.Machine
end

