-- ==== Sys2Proof/Safety.lean ====
section
/-! DEFINITION. What the claims about the machine are said in: frames (which blocks a command leaves as they were) and the
invariants that every step keeps. -/

namespace Sys2Proof.Machine

/-! ### Frames -/

/-- The parts of the state a claim speaks of, one for each block, with the clock, the count of free values and the pins. -/
inductive Block where
  | clock
  | free
  | pins
  | control
  | line
  | fe
  | table
  | sendQ
  | sync
  | store
  | port
  | reports
  deriving DecidableEq, Repr

/-- Every block. -/
def Block.all : List Block :=
  [.clock, .free, .pins, .control, .line, .fe, .table, .sendQ, .sync, .store, .port, .reports]

/-- Two states agree in a block. -/
def Block.agrees (b : Block) (s t : State) : Bool :=
  match b with
  | .clock => t.now == s.now
  | .free => t.free == s.free
  | .pins => t.resetPin == s.resetPin && t.pfailPin == s.pfailPin
  | .control => t.control == s.control
  | .line => t.line == s.line
  | .fe => t.fe == s.fe
  | .table => t.table == s.table
  | .sendQ => t.sendQ == s.sendQ
  | .sync => t.sync == s.sync
  | .store => t.store == s.store
  | .port => t.port == s.port
  | .reports => t.reports == s.reports

/-- From `s` to `t` the queue of commands and every block but those listed are as they were. -/
def State.keepsAllBut (s t : State) (changed : List Block) : Bool :=
  t.pending == s.pending && Block.all.all fun b => changed.contains b || b.agrees s t

/-! ### Answers of the port -/

/-- R169: the port takes a request: it is IDLE or READY. -/
def State.takesRequest (s : State) : Bool :=
  s.port.state == .idle || s.port.state == .ready

/-- R169: from `s` to `t` the port has answered a request with this code and data, and its notices, ATTN and OVERRUN are as
they were. -/
def State.answered (s t : State) (code : ResultCode) (data : List Byte) : Bool :=
  t.port.state == .ready && t.port.response == some ⟨code, data⟩ && t.port.notices == s.port.notices &&
    t.port.attn == s.port.attn && t.port.overrun == s.port.overrun

/-- R169: from `s` to `t` the port has answered a request with this code and data. Its notices may have changed. -/
def State.answeredWith (s t : State) (code : ResultCode) (data : List Byte) : Bool :=
  t.port.state == .ready && t.port.response == some ⟨code, data⟩ && t.port.overrun == s.port.overrun

/-- Table 6, as its rows read: the result of the first check that a WRITE request fails, by the bytes of the request and the
entry held for its tag. -/
def State.table6 (s : State) (hi lo cls per len : Byte) : Option ResultCode :=
  let number := 256 * hi.toNat + lo.toNat
  let tag : Tag := BitVec.ofNat 12 number
  let held := s.table.find tag
  if s.control.link ≠ .active then some .notActive
  else if number = 0 ∨ 0xFFF ≤ number ∨ 32 < len.toNat ∨ 1 < cls.toNat ∨ 1 < per.toNat then some .badArgument
  else if held = none ∧ 96 ≤ s.table.entries.length then some .tableFull
  else if held.any (fun e => e.cls != (if cls = 1#8 then .owned else .common) || e.persistent != (per == 1#8)) then
    some .mismatch
  else if held.any (fun e => e.cls == .owned && e.owner != some s.control.ownId) then some .notOwner
  else if held.any (fun e => e.pair.version == 0xFFFF#16) then some .exhausted
  else if s.sync.wanted.any (fun w => w.tag == tag) then some .stale
  else if (findItem s.sendQ (.publish tag false)).isNone ∧ 16 ≤ s.sendQ.length then some .queueFull
  else none

/-! ### The Record Table (R1, R4, R5, R6) -/

/-- R1, R4, R5: an entry's tag, version and length are in range, and an OWNED entry's owner is the origin of its pair. -/
def Entry.sound (e : Entry) : Bool :=
  recordTag e.tag && e.pair.version != 0#16 && decide (e.value.length ≤ maxLength) &&
    e.owner == (if e.cls = .owned then some e.pair.origin else none)

/-- R6: the sum of the terms of a list of entries, modulo 65536. -/
def totalTerms (entries : List Entry) : BitVec 16 :=
  entries.foldr (fun e acc => e.term + acc) 0#16

/-- R4, R6: at most 96 sound entries in ascending tag order, no two of one tag, and the summary is the sum of their terms. -/
def RecordTable.sound (t : RecordTable) : Bool :=
  ascendingTags (t.entries.map (·.tag)) && t.entries.all Entry.sound && decide (t.entries.length ≤ maxEntries) &&
    t.summary == totalTerms t.entries

/-- The table is sound and the array has its 48 record pairs (Table 67), from which a start loads it. -/
def State.tableInv (s : State) : Bool :=
  s.table.sound && s.store.array.pairs.length == maxPlaces

/-! ### Capacities (R91, R106, R126, R177, R179) -/

/-- The queues and sets hold no more than their capacities, and ATTN is asserted exactly while the Notice Queue holds
something. -/
def State.queueInv (s : State) : Bool :=
  decide (s.sendQ.length ≤ maxItems) && decide (s.sync.roster.length ≤ maxPeers) &&
    decide (s.sync.wanted.length ≤ maxWanted) && decide (s.port.notices.length ≤ maxNotices) &&
    s.port.attn == !s.port.notices.isEmpty

/-! ### The Commit Queue (R12, R141) -/

/-- R12: the store places taken. -/
def RecordTable.places (t : RecordTable) : Nat :=
  (t.entries.filter Entry.holdsPlace).length

/-- R141: the tag is that of a persistent record whose store state is DIRTY or COMMITTING. -/
def RecordTable.awaitsCommit (t : RecordTable) (tag : Tag) : Bool :=
  (t.find tag).any fun e => e.persistent && (e.storeState == .dirty || e.storeState == .committing)

/-- The write engine carries an incarnation write whose end leaves START (R158 step 5). -/
def WriteEngine.endsStart (g : WriteEngine) : Bool :=
  match g.op with
  | some (.incarnation _ _) => !g.discard
  | _ => false

/-- The table is the one a start has loaded: the link state is another than START, or the start's incarnation write, which
follows the load, is in progress (R158). -/
def State.loaded (s : State) : Bool :=
  s.control.link != .start || s.store.engine.endsStart

/-- R142, R150: the tag is that of a persistent record whose store state is COMMITTING. -/
def RecordTable.commits (t : RecordTable) (tag : Tag) : Bool :=
  (t.find tag).any fun e => e.persistent && e.storeState == .committing

/-! ### The lines (R39) -/

/-- R39: outside JOINING and ACTIVE the station drives neither line, has nothing to place on BDA, and has no role in a
frame. -/
def State.linesInv (s : State) : Bool :=
  s.onBus || (!s.line.driveBck && !s.line.driveBda && s.line.placing.isNone && s.fe.role == .none)

/-! ### QUIESCED (R160, R103, R104, R118) -/

/-- The station is in START or QUIESCED, or in FROZEN to return to QUIESCED. -/
def Control.away (c : Control) : Bool :=
  c.link == .start || c.link == .quiesced || (c.link == .frozen && c.returnState == .quiesced)

/-- R160: such a station has an empty Send Queue, an empty Wanted Set and no digest run. -/
def State.quiescedInv (s : State) : Bool :=
  !s.control.away || (s.sendQ.isEmpty && s.sync.wanted.isEmpty && !s.sync.runActive)

/-! ### Host Port and Station Control (R163, R164, R169, R181) -/

/-- R181: the port is NOT_READY exactly in START; Table 81: a response waits exactly in READY; R164, R165: there is a return
state exactly in FROZEN; R163: the supply watch is LOW in START and FROZEN only; R152: the incarnation write of a start is
carried in START only. -/
def State.portInv (s : State) : Bool :=
  ((s.port.state == .notReady) == (s.control.link == .start)) &&
    (s.port.response.isSome == (s.port.state == .ready)) &&
    ((s.control.returnState != .none) == (s.control.link == .frozen)) &&
    (s.control.watch == .good || s.control.link == .start || s.control.link == .frozen) &&
    (!s.store.engine.endsStart || s.control.link == .start)

/-! ### The Commit Queue and the engine, with the table and the port (R12, R141, R150) -/

/-- R141, R12: at most 48 store places; the Commit Queue holds at most 48 distinct tags of persistent records that are DIRTY or
COMMITTING, and none in START; a record that is COMMITTING is its head, and so is the record that the write engine commits. The
record of a commit is COMMITTING, its result to be discarded or not, and results are discarded in START only (R150). With it
go the invariants of the table and of the port: a request, were one taken in START, could leave it before the load (R181). -/
def State.commitInv (s : State) : Bool :=
  s.tableInv && s.portInv && decide (s.table.places ≤ maxPlaces) && decide s.store.commitQ.Nodup &&
    decide (s.store.commitQ.length ≤ maxPlaces) && s.store.commitQ.all s.table.awaitsCommit &&
    (s.control.link != .start || s.store.commitQ.isEmpty) &&
    (!s.loaded || s.table.entries.all fun e => e.storeState != .committing || s.store.commitQ.head? == some e.tag) &&
    (!s.store.engine.discard || s.control.link == .start) &&
    match s.store.engine.op with
    | some (.commit tag _ _ _ _) =>
      s.table.commits tag && (s.store.engine.discard || s.store.commitQ.head? == some tag)
    | _ => true

end Sys2Proof.Machine
end

