-- ==== Sys2Proof/Certificates/Slice0/Obligations.lean ====
section
/-! DEFINITION. The statements for the provers. Each says what a command or the machine does, by the rules of spec/; a clause
that rests on a choice of the model names its log entry. -/

open Sys2Proof Sys2Proof.Machine

/-! ### The machine -/

/-- A step takes the command at the front of the queue and executes it with the queue's rest. -/
def Obligations.StepTakesFrontCommand : Prop :=
  ∀ (c : Instr) (s : State), step { s with pending := c :: s.pending } = exec c s

/-- Log entry 4 (the model's choice): a step on an empty queue lets one quantum of time pass, and no command appears. -/
def Obligations.IdleStepAdvancesTheClock : Prop :=
  ∀ s : State, s.pending = [] → ∃ t, step s = .next t ∧ t.pending = [] ∧ t.now = s.now + 1

/-- Every command of the table ends in a next state, in every state, and leaves the commands that wait behind it (R7; the
clock is the model's own, log entry 4). -/
def Obligations.EveryCommandAnswersNext : Prop :=
  ∀ (c : Instr) (s : State), ∃ t, exec c s = .next t ∧ t.pending = s.pending ∧ t.now = s.now

/-- R4, R5, R6: every step keeps the table's order, its capacity, the ranges of its entries and its summary. -/
def Obligations.TableInvariantKept : Prop :=
  ∀ s t : State, s.tableInv = true → step s = .next t → t.tableInv = true

/-- R91, R106, R126, R177, R179: every step keeps the Send Queue, the roster, the Wanted Set and the Notice Queue within their
capacities, and ATTN true to the Notice Queue. (The Commit Queue's is CommitQueueKept.) -/
def Obligations.CapacitiesKept : Prop :=
  ∀ s t : State, s.queueInv = true → step s = .next t → t.queueInv = true

/-- R141, R12: every step keeps the Commit Queue: at most 48 distinct tags of persistent records that are DIRTY or COMMITTING,
the COMMITTING record at its head, and at most 48 store places taken. (State.commitInv also has that the queue of a station in
START is empty, that the table a start has not yet loaded may still show COMMITTING, and that a commit the engine carries is of a
COMMITTING record, with results discarded in START only: R142, R150. With it are kept State.tableInv and State.portInv.) -/
def Obligations.CommitQueueKept : Prop :=
  ∀ s t : State, s.commitInv = true → step s = .next t → t.commitInv = true

/-- R39: every step keeps both lines released outside JOINING and ACTIVE. -/
def Obligations.LinesReleasedOffTheBus : Prop :=
  ∀ s t : State, s.linesInv = true → step s = .next t → t.linesInv = true

/-- R160, R103, R104: every step keeps the Send Queue and the Wanted Set empty and no digest run active in START and QUIESCED,
and in FROZEN entered from QUIESCED. -/
def Obligations.QuiescedQueuesStayEmpty : Prop :=
  ∀ s t : State, s.quiescedInv = true → step s = .next t → t.quiescedInv = true

/-- R181, R164, R165, R163, R152: every step keeps the port, the link state, the return state, the supply watch and the
incarnation write in agreement. -/
def Obligations.PortAndLinkStateAgree : Prop :=
  ∀ s t : State, s.portInv = true → step s = .next t → t.portInv = true

/-- R2, R5, R10, R31: no command but the load scan of a start removes a held record, changes its class, persistent attribute or
owner, or gives it a pair that is not later; and its value changes only with its pair. (An entry to START leaves the table as
it is until that scan: log entry 38.) -/
def Obligations.HeldRecordsNeverGoBack : Prop :=
  ∀ (c : Instr) (s t : State) (tag : Tag) (e : Entry), exec c s = .next t → c ≠ .startSequence →
    s.table.find tag = some e →
    ∃ e', t.table.find tag = some e' ∧ e'.cls = e.cls ∧ e'.persistent = e.persistent ∧ e'.owner = e.owner ∧
      ((e'.pair = e.pair ∧ e'.value = e.value) ∨ e'.pair.later e.pair = true)

/-- R156: the configuration in force is taken at the configuration read of a start and kept unchanged until the next start; a
CONFIG WRITE, whatever its result, leaves it. What stands between an entry to START, by POWER_UP too, and that start's
configuration read is the model's choice (log entry 38, DEDUCED): the configuration of before. -/
def Obligations.ConfigurationChangesAtAStartOnly : Prop :=
  (∀ (c : Instr) (s t : State), exec c s = .next t → c ≠ .startSequence → t.control.config = s.control.config) ∧
    (∀ s t : State, s.control.link = .start → s.startWaitEnded = true → exec .startSequence s = .next t →
      t.control.config = s.store.array.config.valid?)

/-- R157, R181, R69, R56, R104, R116, R118, R151: reset is the entry to START of a power-up, and meets the six invariants. -/
def Obligations.ResetIsAnEntryToStart : Prop :=
  (State.reset.tableInv = true ∧ State.reset.queueInv = true ∧ State.reset.linesInv = true ∧
     State.reset.quiescedInv = true ∧ State.reset.portInv = true ∧ State.reset.commitInv = true) ∧
  (State.reset.control.link = .start ∧ State.reset.control.cause = .power ∧ State.reset.control.returnState = .none ∧
     State.reset.control.quiesceWaiting = false ∧
     State.reset.line.cond = .frame ∧ State.reset.line.frameOpen = false ∧ State.reset.line.seenIdle = false ∧
     State.reset.line.yieldOwed = false ∧ State.reset.line.quiet = 0 ∧ State.reset.line.phase = .none ∧
     State.reset.line.driveBck = false ∧ State.reset.line.driveBda = false ∧
     State.reset.fe.tx = .idle ∧ State.reset.fe.rx = .hunt ∧ State.reset.fe.role = .none ∧
     State.reset.fe.snapshot = none ∧ State.reset.fe.loss = none ∧ State.reset.fe.vote = none ∧
     State.reset.sendQ = [] ∧ State.reset.sync.roster = [] ∧ State.reset.sync.wanted = [] ∧
     State.reset.sync.runActive = false ∧ State.reset.sync.cursor = 0x001#12 ∧ State.reset.sync.joinDigest = .notYet ∧
     State.reset.store.commitQ = [] ∧ State.reset.store.repaired = false ∧
     State.reset.port.state = .notReady ∧ State.reset.port.overrun = false ∧ State.reset.port.response = none ∧
     State.reset.port.notices = [] ∧ State.reset.port.attn = false)

/-! ### Record order, frames and requests as bits -/

/-- R3: record order compares version, then origin, and any two pairs stand in exactly one of the three relations. R58, R67:
of two PUBLISH headers of one tag, the one with the later pair spells the lower number, most significant bit first, so that it
places the 0 at the first position where they differ. -/
def Obligations.RecordOrderDecidesContention : Prop :=
  (∀ p q : OrderPair,
    (p.later q = true ↔ q.version.toNat < p.version.toNat ∨ (p.version = q.version ∧ q.origin.toNat < p.origin.toNat)) ∧
    (p.later q = true ∨ q.later p = true ∨ p = q) ∧
    ¬(p.later q = true ∧ q.later p = true) ∧ ¬(p.later q = true ∧ p = q)) ∧
  (∀ (tag : Tag) (p q : OrderPair),
    (p.later q = true ↔
      bitsToNat (Header.bits ⟨.publish, tag, p.version, p.origin⟩) <
        bitsToNat (Header.bits ⟨.publish, tag, q.version, q.origin⟩)))

/-- R57 to R59, R63 to R65: the bits a PUBLISH frame of an entry places, taken bit by bit into an empty receive buffer, give
back the entry's tag, attributes, pair and value, with a good check code. -/
def Obligations.PublishFrameDecodesToItsEntry : Prop :=
  ∀ e : Entry, e.value.length ≤ 32 →
    ((publishSnapshot e).wire.foldl RxBuffer.take .initial).content =
        some (.publish ⟨e.tag, e.cls, e.persistent, e.pair, e.value.length, e.value⟩) ∧
      ((publishSnapshot e).wire.foldl RxBuffer.take .initial).good = some true

/-- R57, R58, R60 to R65: the same of BEACON, PULL and DIGEST frames. -/
def Obligations.OtherFramesDecodeToTheirContent : Prop :=
  (∀ (own : StationId) (inc period : BitVec 8) (joining : Bool) (count : BitVec 8) (summary : BitVec 16),
    let b := (beaconSnapshot own inc period joining count summary).wire.foldl RxBuffer.take .initial
    b.content = some (.beacon ⟨own, 0xFFF#12, inc, period, joining, 0#7, count, summary⟩) ∧ b.good = some true) ∧
  (∀ (own : StationId) (tags : List Tag), tags.length ≤ 8 →
    let b := (pullSnapshot own tags).wire.foldl RxBuffer.take .initial
    b.content = some (.pull ⟨own, tags.headD 0#12, 0#16, 0#4, tags.map (BitVec.setWidth 16)⟩) ∧ b.good = some true) ∧
  (∀ (own : StationId) (start stop : Tag) (listed : List Listed), listed.length ≤ 8 →
    let b := (digestSnapshotFrame own start stop listed).wire.foldl RxBuffer.take .initial
    b.content = some (.digest ⟨own, start, stop.setWidth 16, 0#4, listed⟩) ∧ b.good = some true)

/-! ### Host Port: transactions and requests (Chapter 11) -/

/-- R168, R167, Table 86: TRANSACTION_BEGIN loads the status byte and shifts it out, and SDO drives while SEL is asserted. A
transaction that ends with no whole byte shifted in changes nothing but that SEL is released and SDO high-impedance again. R170:
a fetch that begins in READY shifts out the response, then 0xFF, and consumes it if every byte was clocked; in the other port
states it shifts out 0xFF. OVERRUN is cleared except in NOT_READY. -/
def Obligations.TransactionsShiftOutStatusAndResponse : Prop :=
  (∀ s : State, ∃ t, exec (.transactionBegin false) s = .next t ∧ t.port.sel = true ∧
     t.port.statusByte.extractLsb' 6 2 =
       (match s.port.state with | .notReady => 0#2 | .idle => 1#2 | .working => 2#2 | .ready => 3#2) ∧
     t.port.statusByte.getLsbD 5 = s.port.overrun ∧
     t.port.statusByte.getLsbD 4 = (!s.port.notices.isEmpty) ∧
     t.port.statusByte.extractLsb' 0 4 = 0#4 ∧
     t.port.shiftedOut = [t.port.statusByte] ∧ t.port.sdo = some t.port.statusByte ∧
     t.port.state = s.port.state ∧ t.port.overrun = s.port.overrun ∧ t.port.response = s.port.response ∧
     t.port.notices = s.port.notices ∧ s.keepsAllBut t [.port] = true) ∧
  (∀ s : State, ∃ t, exec (.transactionBegin true) s = .next t ∧ t.port.sdo = none ∧
     t.port = { s.port with sel := false, statusByte := t.port.statusByte, shiftedOut := [] } ∧
     (s.port.sel = true → t.port.statusByte = s.port.statusByte) ∧ s.keepsAllBut t [.port] = true) ∧
  (∀ (s : State) (n : Nat), ∃ s1 t, exec (.transactionBegin false) s = .next s1 ∧ exec (.fetch n) s1 = .next t ∧
     t.port.sel = false ∧ t.port.sdo = none ∧ t.port.notices = s.port.notices ∧ t.port.attn = s.port.attn ∧
     s.keepsAllBut t [.port] = true ∧
     (∀ r, s.port.state = .ready → s.port.response = some r →
       t.port.shiftedOut = s1.port.statusByte ::
         ((r.code.byte :: BitVec.ofNat 8 r.data.length :: r.data).take n ++
           List.replicate (n - (r.data.length + 2)) 0xFF#8) ∧
       t.port.overrun = false ∧
       (if r.data.length + 2 ≤ n then t.port.state = .idle ∧ t.port.response = none
         else t.port.state = .ready ∧ t.port.response = some r)) ∧
     (s.port.state ≠ .ready →
       t.port.shiftedOut = s1.port.statusByte :: List.replicate n 0xFF#8 ∧ t.port.state = s.port.state ∧
       t.port.response = s.port.response ∧ t.port.overrun = (s.port.overrun && s.port.state == .notReady)))

/-- R169, Table 82, R182: a request that arrives in WORKING is dropped and sets OVERRUN, one in NOT_READY is dropped and does
not. A taken request whose first byte is no command code, or whose byte count is not the size Table 87 gives, is answered
BAD_ARGUMENT in every link state and goes no further. In FROZEN every well-sized one but STATUS and RESTART is answered
FROZEN and handed to no block. -/
def Obligations.RequestsPassThePortState : Prop :=
  (∀ (s : State) (c : Instr) (bytes : List Byte), requestBytes c = some bytes → (∀ n, c ≠ .fetch n) →
     c.wellFormed = true →
     (s.port.state = .working → ∃ t, exec c s = .next t ∧ t.port.overrun = true ∧ t.port.state = .working ∧
       t.port.response = s.port.response ∧ t.port.notices = s.port.notices ∧ s.keepsAllBut t [.port] = true) ∧
     (s.port.state = .notReady → ∃ t, exec c s = .next t ∧ t.port.overrun = s.port.overrun ∧
       t.port.state = .notReady ∧ t.port.response = s.port.response ∧ t.port.notices = s.port.notices ∧
       s.keepsAllBut t [.port] = true)) ∧
  (∀ s : State, s.takesRequest = true →
     (∀ (code : Byte) (args : List Byte), (1 ≤ code.toNat → 13 < code.toNat) → code ≠ 0x80#8 →
       ∃ t, exec (.notACommandCode code args) s = .next t ∧ s.answered t .badArgument [] = true ∧
         s.keepsAllBut t [.port] = true) ∧
     (∀ (args : List Byte) (c : Instr),
       (c = .read args ∧ args.length ≠ 2) ∨ (c = .nextTag args ∧ args.length ≠ 2) ∨ (c = .watch args ∧ args.length ≠ 3) ∨
       (c = .configWrite args ∧ args.length ≠ 4) ∨
       (c = .write args ∧ args.length ≠ 5 + (args.getD 4 0#8).toNat) ∨
       (c ∈ [.status args, .peers args, .notice args, .quiesce args, .resume args, .configRead args, .wipe args,
         .restart args] ∧ args ≠ []) →
       ∃ t, exec c s = .next t ∧ s.answered t .badArgument [] = true ∧ s.keepsAllBut t [.port] = true)) ∧
  (∀ (s : State) (b1 b2 b3 b4 : Byte) (w : List Byte) (c : Instr), s.takesRequest = true → s.control.link = .frozen →
     (c ∈ [.read [b1, b2], .nextTag [b1, b2], .watch [b1, b2, b3], .peers [], .notice [], .quiesce [], .resume [],
         .configRead [], .configWrite [b1, b2, b3, b4], .wipe []] ∨
       (c = .write w ∧ w.length = 5 + (w.getD 4 0#8).toNat)) →
     ∃ t, exec c s = .next t ∧ s.answered t .frozen [] = true ∧ s.keepsAllBut t [.port] = true)

/-! ### Host Port: reads of the table (Chapter 1) -/

/-- R17, R174, Table 89: READ answers with the whole entry. R18, R174: NEXT answers with the lowest held tag above the one
named. R19, R174: WATCH sets the watch of a held entry and nothing else of the table; that an absent tag with a setting byte above
1 is answered BAD_ARGUMENT and not NOT_FOUND is the model's choice (log entry 51). -/
def Obligations.ReadNextAndWatchUseTheTable : Prop :=
  (∀ (s : State) (hi lo : Byte), s.takesRequest = true → s.control.link ≠ .frozen →
     ∃ t, exec (.read [hi, lo]) s = .next t ∧ s.keepsAllBut t [.port] = true ∧
       ((256 * hi.toNat + lo.toNat = 0 ∨ 0xFFF ≤ 256 * hi.toNat + lo.toNat) → s.answered t .badArgument [] = true) ∧
       (∀ tag : Tag, 256 * hi.toNat + lo.toNat = tag.toNat → 1 ≤ tag.toNat → tag.toNat ≤ 0xFFE →
         (s.table.find tag = none → s.answered t .notFound [] = true) ∧
         (∀ e, s.table.find tag = some e → s.answered t .ok
           ([hi, lo, if e.cls = .owned then 1#8 else 0#8, if e.persistent then 1#8 else 0#8,
             match e.owner with | some o => o.setWidth 8 | none => 0xFF#8,
             e.pair.version.extractLsb' 8 8, e.pair.version.extractLsb' 0 8, e.pair.origin.setWidth 8,
             if e.watch then 1#8 else 0#8,
             match e.storeState with
             | .none => 0#8 | .clean => 1#8 | .dirty => 2#8 | .committing => 3#8 | .failed => 4#8 | .unstored => 5#8,
             BitVec.ofNat 8 e.value.length] ++ e.value) = true))) ∧
  (∀ (s : State) (hi lo : Byte), s.takesRequest = true → s.control.link ≠ .frozen →
     ascendingTags (s.table.entries.map (·.tag)) = true →
     ∃ t, exec (.nextTag [hi, lo]) s = .next t ∧ s.keepsAllBut t [.port] = true ∧
       (0xFFF ≤ 256 * hi.toNat + lo.toNat → s.answered t .badArgument [] = true) ∧
       (256 * hi.toNat + lo.toNat ≤ 0xFFE →
         ((∀ e ∈ s.table.entries, e.tag.toNat ≤ 256 * hi.toNat + lo.toNat) → s.answered t .notFound [] = true) ∧
         (∀ e ∈ s.table.entries, 256 * hi.toNat + lo.toNat < e.tag.toNat →
           (∀ x ∈ s.table.entries, 256 * hi.toNat + lo.toNat < x.tag.toNat → e.tag.toNat ≤ x.tag.toNat) →
           s.answered t .ok [BitVec.ofNat 8 (e.tag.toNat / 256), BitVec.ofNat 8 (e.tag.toNat % 256)] = true))) ∧
  (∀ (s : State) (hi lo setting : Byte), s.takesRequest = true → s.control.link ≠ .frozen →
     ∃ t, exec (.watch [hi, lo, setting]) s = .next t ∧ s.keepsAllBut t [.port, .table] = true ∧
       ((256 * hi.toNat + lo.toNat = 0 ∨ 0xFFF ≤ 256 * hi.toNat + lo.toNat ∨ 1 < setting.toNat) →
         s.answered t .badArgument [] = true ∧ t.table = s.table) ∧
       (∀ tag : Tag, 256 * hi.toNat + lo.toNat = tag.toNat → 1 ≤ tag.toNat → tag.toNat ≤ 0xFFE → setting.toNat ≤ 1 →
         (s.table.find tag = none → s.answered t .notFound [] = true ∧ t.table = s.table) ∧
         (∀ e, s.table.find tag = some e → s.answered t .ok [] = true ∧ t.table.summary = s.table.summary ∧
           ∀ u : Tag, t.table.find u = if u = tag then some { e with watch := setting == 1#8 } else s.table.find u)))

/-! ### Host Port: WRITE (R8 to R13) -/

/-- R9 with Table 6: the first failing check of Table 6, in its order, gives the result; a refused WRITE leaves the table, the
summary, the queues and the notices as they were, and its response carries no data. -/
def Obligations.RefusedWriteChangesNothing : Prop :=
  ∀ (s : State) (hi lo cls per len : Byte) (value : List Byte) (code : ResultCode),
    s.takesRequest = true → s.control.link ≠ .frozen → value.length = len.toNat →
    s.table6 hi lo cls per len = some code →
    ∃ t, exec (.write ([hi, lo, cls, per, len] ++ value)) s = .next t ∧ s.answered t code [] = true ∧
      s.keepsAllBut t [.port] = true

/-- R10, R2: an accepted WRITE of a held tag makes the next version, at the own ID, with the request's value, pending; one of
an absent tag creates the entry at version 1. The response carries the pair, and every other entry is as it was. -/
def Obligations.WriteMakesAVersion : Prop :=
  (∀ (s : State) (hi lo cls per len : Byte) (value : List Byte) (tag : Tag) (e : Entry),
     s.takesRequest = true → s.control.link = .active → value.length = len.toNat → len.toNat ≤ 32 →
     256 * hi.toNat + lo.toNat = tag.toNat → 1 ≤ tag.toNat → tag.toNat ≤ 0xFFE →
     s.table.find tag = some e → cls = (if e.cls = .owned then 1#8 else 0#8) → per = (if e.persistent then 1#8 else 0#8) →
     (e.cls = .owned → e.owner = some s.control.ownId) → e.pair.version ≠ 0xFFFF#16 →
     s.sync.wanted.any (fun w => w.tag == tag) = false →
     ((findItem s.sendQ (.publish tag false)).isSome = true ∨ s.sendQ.length < 16) →
     ∃ t e', exec (.write ([hi, lo, cls, per, len] ++ value)) s = .next t ∧
       s.answeredWith t .ok [(e.pair.version + 1#16).extractLsb' 8 8, (e.pair.version + 1#16).extractLsb' 0 8,
         s.control.ownId.setWidth 8] = true ∧
       s.keepsAllBut t [.port, .table, .sendQ, .fe, .store] = true ∧
       t.store.array = s.store.array ∧ t.store.pairMap = s.store.pairMap ∧ t.store.request = s.store.request ∧
       e' = { e with pair := ⟨e.pair.version + 1#16, s.control.ownId⟩, value := value, unsent := true,
                     storeState := e'.storeState } ∧
       (∀ u : Tag, t.table.find u = if u = tag then some e' else s.table.find u) ∧
       t.table.summary = s.table.summary - e.term + e'.term) ∧
  (∀ (s : State) (hi lo cls per len : Byte) (value : List Byte) (tag : Tag),
     s.takesRequest = true → s.control.link = .active → value.length = len.toNat → len.toNat ≤ 32 →
     256 * hi.toNat + lo.toNat = tag.toNat → 1 ≤ tag.toNat → tag.toNat ≤ 0xFFE →
     s.table.find tag = none → s.table.entries.length < 96 → cls.toNat ≤ 1 → per.toNat ≤ 1 →
     s.sync.wanted.any (fun w => w.tag == tag) = false →
     ((findItem s.sendQ (.publish tag false)).isSome = true ∨ s.sendQ.length < 16) →
     ∃ t e', exec (.write ([hi, lo, cls, per, len] ++ value)) s = .next t ∧
       s.answeredWith t .ok [0x00#8, 0x01#8, s.control.ownId.setWidth 8] = true ∧
       s.keepsAllBut t [.port, .table, .sendQ, .fe, .store] = true ∧
       e' = ⟨tag, if cls = 1#8 then .owned else .common, per == 1#8, if cls = 1#8 then some s.control.ownId else none,
         ⟨1#16, s.control.ownId⟩, value, false, e'.storeState, true⟩ ∧
       (∀ u : Tag, t.table.find u = if u = tag then some e' else s.table.find u) ∧
       t.table.entries.length = s.table.entries.length + 1 ∧
       t.table.summary = s.table.summary + e'.term)

/-- R11, R12, R13, R143, R92, Tables 7 and 8: after a WRITE that meets every check of Table 6 (State.table6; the hypotheses of
WriteMakesAVersion), of a held and of an absent tag: the Send Queue, the transmit machine, the record's store state, the Commit
Queue, the COMMIT_FAILED notice, and the changed mark of a commit of the record; the store is otherwise as it was. -/
def Obligations.WriteReachesTheQueues : Prop :=
  ∀ (s : State) (hi lo cls per len : Byte) (value : List Byte) (tag : Tag),
    s.takesRequest = true → value.length = len.toNat → 256 * hi.toNat + lo.toNat = tag.toNat →
    s.table6 hi lo cls per len = none →
    let room := decide ((s.table.entries.filter (fun x => x.persistent && x.storeState != .unstored)).length < 48)
    let before : Option StoreState := (s.table.find tag).map (·.storeState)
    let after : StoreState :=
      if per = 0#8 then .none
      else match before with
        | none => if room then .dirty else .unstored
        | some .unstored => if room then .dirty else .unstored
        | some .committing => .committing
        | some _ => .dirty
    ∃ t, exec (.write ([hi, lo, cls, per, len] ++ value)) s = .next t ∧
      (match findItem s.sendQ (.publish tag false) with
        | none => t.sendQ = s.sendQ ++ [⟨.publish tag false, false, 0⟩] ∧
            t.fe = { s.fe with tx := if s.fe.tx = .idle then .waiting else s.fe.tx }
        | some it =>
          if it.inFlight then
            t.sendQ = s.sendQ.map fun x =>
              if x.inFlight && x.payload.sameItem (.publish tag false) then { x with payload := .publish tag true } else x
          else t.sendQ = s.sendQ ∧ t.fe = s.fe) ∧
      (t.table.find tag).map (·.storeState) = some after ∧
      t.store.commitQ =
        (if after = .dirty ∧ tag ∉ s.store.commitQ then s.store.commitQ ++ [tag] else s.store.commitQ) ∧
      t.port.notices = (if after = .unstored then postInto s.port.notices
        ⟨.commitFailed, some tag, none, none, some .storeFull⟩ else s.port.notices) ∧
      (∀ pair target image changed, s.store.engine.op = some (.commit tag pair target image changed) →
        t.store.engine = { s.store.engine with op := some (.commit tag pair target image true) }) ∧
      ((∀ pair target image changed, s.store.engine.op ≠ some (.commit tag pair target image changed)) →
        t.store.engine = s.store.engine) ∧
      t.store = { s.store with commitQ := t.store.commitQ, engine := t.store.engine } ∧
      s.keepsAllBut t [.port, .table, .sendQ, .fe, .store] = true

/-! ### Host Port: figures, notices and requests to Station Control and the store -/

/-- R171, R117, Table 89: STATUS answers with the station's figures, PEERS with the roster in its order, CONFIG READ with the
configuration area's fields and its validity (of an area that is not under write). That the figures of STATUS are all of one
moment, where R171 lets those of different blocks straddle an event, is the model's choice (log entry 49). -/
def Obligations.StatusPeersAndConfigReadAnswer : Prop :=
  (∀ s : State, s.takesRequest = true → ∃ t, exec (.status []) s = .next t ∧ s.keepsAllBut t [.port] = true ∧
     s.answered t .ok
       [match s.control.link with
         | .start => 0#8 | .quiesced => 1#8 | .joining => 2#8 | .active => 3#8 | .faulted => 4#8 | .frozen => 5#8,
        s.control.reason.byte,
        match s.control.cause with | .power => 0#8 | .pin => 1#8 | .command => 2#8,
        if s.control.config.isSome then 1#8 else 0#8,
        if s.store.repaired then 1#8 else 0#8,
        match s.control.config with | some f => f.station.setWidth 8 | none => 0xFF#8,
        s.store.incarnation, BitVec.ofNat 8 s.sendQ.length, BitVec.ofNat 8 s.sync.wanted.length,
        BitVec.ofNat 8 s.store.commitQ.length, BitVec.ofNat 8 s.port.notices.length,
        BitVec.ofNat 8 s.table.entries.length,
        s.table.summary.extractLsb' 8 8, s.table.summary.extractLsb' 0 8] = true) ∧
  (∀ s : State, s.takesRequest = true → s.control.link ≠ .frozen →
     (∃ t, exec (.peers []) s = .next t ∧ s.keepsAllBut t [.port] = true ∧
       s.answered t .ok (BitVec.ofNat 8 s.sync.roster.length :: s.sync.roster.flatMap fun p =>
         [p.station.setWidth 8, (if p.silent then 1#8 else 0#8) ||| (if p.joining then 2#8 else 0#8), p.incarnation,
           p.period, p.count, p.summary.extractLsb' 8 8, p.summary.extractLsb' 0 8]) = true) ∧
     (∃ t, exec (.configRead []) s = .next t ∧ s.keepsAllBut t [.port] = true ∧
       (s.store.array.config = .erased → s.answered t .ok [0#8, 0#8, 0#8, 0#8, 0#8] = true) ∧
       (∀ f check, s.store.array.config = .holds f check →
         s.answered t .ok [if check = f.code ∧ f.period ≠ 0#8 then 1#8 else 0#8, f.station.setWidth 8,
           f.rate.setWidth 8, f.period, if f.action = .restart then 1#8 else 0#8] = true) ∧
       (∀ f, s.store.array.config = .torn f →
         s.answered t .ok [0#8, f.station.setWidth 8, f.rate.setWidth 8, f.period,
           if f.action = .restart then 1#8 else 0#8] = true)))

/-- R180, R179, Table 90: NOTICE removes the oldest notice and answers with it and the number left. -/
def Obligations.NoticeRemovesTheOldest : Prop :=
  ∀ s : State, s.takesRequest = true → s.control.link ≠ .frozen →
    ∃ t, exec (.notice []) s = .next t ∧ s.keepsAllBut t [.port] = true ∧
      (s.port.notices = [] → s.answered t .notFound [] = true) ∧
      (∀ n rest, s.port.notices = n :: rest →
        t.port.notices = rest ∧ t.port.attn = (!rest.isEmpty) ∧
        s.answeredWith t .ok
          [BitVec.ofNat 8 rest.length, n.kind.byte,
           (if n.tag.isSome then 1#8 else 0#8) ||| (if n.station.isSome then 2#8 else 0#8) |||
             (if n.pair.isSome then 4#8 else 0#8) ||| (if n.reason.isSome then 8#8 else 0#8),
           BitVec.ofNat 8 ((n.tag.getD 0#12).toNat / 256), BitVec.ofNat 8 ((n.tag.getD 0#12).toNat % 256),
           (n.station.getD 0#4).setWidth 8,
           ((n.pair.map (·.version)).getD 0#16).extractLsb' 8 8, ((n.pair.map (·.version)).getD 0#16).extractLsb' 0 8,
           ((n.pair.map (·.origin)).getD 0#4).setWidth 8, (n.reason.map Reason.byte).getD 0#8] = true)

/-- R161, R160, R172: QUIESCE by the link state. -/
def Obligations.QuiesceByLinkState : Prop :=
  ∀ s : State, s.takesRequest = true → ∃ t, exec (.quiesce []) s = .next t ∧
    (s.control.link = .quiesced → s.answered t .ok [] = true ∧ s.keepsAllBut t [.port] = true) ∧
    ((s.control.link = .faulted ∨
        (s.onBus = true ∧ (s.fe.role = .none ∨ s.fe.rx = .discard))) →
      t.control = { s.control with link := .quiesced, reason := .hostRequest, quiesceWaiting := false } ∧
      t.sendQ = [] ∧ t.sync.wanted = [] ∧ t.sync.runActive = false ∧ t.sync.cursor = 0x001#12 ∧
      t.sync.digestQueued = false ∧ t.sync.rangeEnd = none ∧ t.sync.pullList = [] ∧ t.sync.beaconTimer = none ∧
      t.sync.listen = none ∧ t.sync.joinDigest = .notYet ∧ t.sync.settle = .stopped ∧
      t.sync.roster = s.sync.roster.map (fun p => { p with timer := none }) ∧
      t.line.driveBck = false ∧ t.line.driveBda = false ∧ t.line.right = false ∧ t.line.cond = s.line.cond ∧
      t.port.notices = postInto s.port.notices ⟨.link, none, none, none, some .hostRequest⟩ ∧
      s.answeredWith t .ok [] = true ∧
      s.keepsAllBut t [.control, .line, .fe, .sendQ, .sync, .port, .reports] = true) ∧
    (s.onBus = true → s.fe.role ≠ .none → s.fe.rx ≠ .discard →
      t.control = { s.control with quiesceWaiting := true } ∧ t.port.state = .working ∧
      t.port.notices = s.port.notices ∧ s.keepsAllBut t [.control, .port, .reports] = true)

/-- R162, R119, R113: RESUME by the link state. R173: CONFIG WRITE and WIPE are refused outside QUIESCED, a CONFIG WRITE out of
range is refused, and an accepted one is pending at the store with the port WORKING. -/
def Obligations.ResumeAndStoreRequestsByLinkState : Prop :=
  (∀ s : State, s.takesRequest = true → s.control.link ≠ .frozen → ∃ t, exec (.resume []) s = .next t ∧
     (s.control.link ≠ .quiesced → s.answered t .notQuiesced [] = true ∧ s.keepsAllBut t [.port] = true) ∧
     (s.control.link = .quiesced → s.control.config = none →
       s.answered t .badConfig [] = true ∧ s.keepsAllBut t [.port] = true) ∧
     (s.control.link = .quiesced → s.control.config.isSome = true →
       t.control = { s.control with link := .joining, reason := .hostRequest } ∧
       t.sync.beaconTimer = some 0 ∧ t.sync.listen = some 0 ∧ t.sync.joinDigest = .notYet ∧ t.sync.settle = .stopped ∧
       (s.line.frameOpen = true → t.fe.rx = .discard) ∧
       (s.line.cond = .stuck → t.reports.busStuck = true) ∧
       t.port.notices = postInto s.port.notices ⟨.link, none, none, none, some .hostRequest⟩ ∧
       s.answeredWith t .ok [] = true ∧
       s.keepsAllBut t [.control, .fe, .sendQ, .sync, .port, .reports] = true)) ∧
  (∀ s : State, s.takesRequest = true → s.control.link ≠ .frozen →
     (∀ id rate period action : Byte, ∃ t, exec (.configWrite [id, rate, period, action]) s = .next t ∧
       (s.control.link ≠ .quiesced → s.answered t .notQuiesced [] = true ∧ s.keepsAllBut t [.port] = true) ∧
       (s.control.link = .quiesced →
         (15 < id.toNat ∨ 3 < rate.toNat ∨ period = 0#8 ∨ 1 < action.toNat) →
         s.answered t .badArgument [] = true ∧ s.keepsAllBut t [.port] = true) ∧
       (s.control.link = .quiesced → id.toNat ≤ 15 → rate.toNat ≤ 3 → period ≠ 0#8 → action.toNat ≤ 1 →
         t.port.state = .working ∧ t.port.notices = s.port.notices ∧
         t.store = { s.store with request := some (.configWrite
           ⟨id.setWidth 4, rate.setWidth 2, period, if action = 1#8 then .restart else .freeze⟩) } ∧
         s.keepsAllBut t [.port, .store] = true)) ∧
     (∃ t, exec (.wipe []) s = .next t ∧
       (s.control.link ≠ .quiesced → s.answered t .notQuiesced [] = true ∧ s.keepsAllBut t [.port] = true) ∧
       (s.control.link = .quiesced → t.port.state = .working ∧ t.port.notices = s.port.notices ∧
         t.store = { s.store with request := some .wipe } ∧ s.keepsAllBut t [.port, .store] = true)))

/-- R175: a RESTART taken in IDLE or READY moves the station to START with cause COMMAND, leaves no response, and the port is
NOT_READY; one that arrives while WORKING is dropped with OVERRUN and the station does not restart. -/
def Obligations.RestartMovesToStart : Prop :=
  ∀ s : State,
    (s.takesRequest = true → ∃ t, exec (.restart []) s = .next t ∧ t.control.link = .start ∧ t.control.cause = .command ∧
      t.port.response = none ∧ t.port.state = .notReady) ∧
    (s.port.state = .working → ∃ t, exec (.restart []) s = .next t ∧ t.port.overrun = true ∧ t.port.state = .working ∧
      s.keepsAllBut t [.port] = true)

/-! ### Line Interface (Chapter 3) -/

/-- R44, R51, R45: QUIET_GAP makes the condition IDLE; that it changes nothing while this station itself pulls a line is the
model's choice (log entry 5). IDLE_LOST, a low in IDLE that is no opening mark, makes it FRAME again with no frame open, and the
right to open lapses. -/
def Obligations.IdleComesAndGoes : Prop :=
  (∀ s : State, s.tracks = true → s.line.frameOpen = false → s.line.cond = .frame ∨ s.line.cond = .held →
     (s.line.driveBck = true ∨ s.line.driveBda = true → exec .quietGap s = .next s) ∧
     (s.line.driveBck = false → s.line.driveBda = false →
     ∃ t, exec .quietGap s = .next t ∧ t.line.cond = .idle ∧ t.line.seenIdle = true ∧
       t.line.bck = true ∧ t.line.bda = true ∧
       t.line.frameOpen = false ∧ t.line.yieldOwed = s.line.yieldOwed ∧ t.line.right = s.line.right ∧
       10 * s.control.bitTime ≤ t.line.quiet ∧ s.keepsAllBut t [.line] = true)) ∧
  (∀ (s : State) (l : Line), s.tracks = true → s.line.cond = .idle →
     ∃ t, exec (.idleLost l) s = .next t ∧ t.line.cond = .frame ∧ t.line.frameOpen = false ∧ t.line.right = false ∧
       t.line.quiet = 0 ∧ t.line.seenIdle = s.line.seenIdle ∧ t.line.yieldOwed = s.line.yieldOwed ∧
       (l = .bck → t.line.bck = false) ∧ (l = .bda → t.line.bda = false) ∧ s.keepsAllBut t [.line] = true)

/-- R45, R71, R97, R59, R62: RIGHT_TO_OPEN with neither line pulled by this station: with nothing to send the right is given
and stands; a PUBLISH or a BEACON head is opened with its content taken at this step. -/
def Obligations.RightToOpenSendsTheHead : Prop :=
  ∀ s : State, s.onBus = true → s.line.cond = .idle → s.line.driveBck = false → s.line.driveBda = false →
    (s.fe.tx = .idle → ∃ t, exec .rightToOpen s = .next t ∧ t.line.right = true ∧ t.line.driveBda = false ∧
      s.keepsAllBut t [.line] = true) ∧
    (∀ tag again n rest e, s.fe.tx = .waiting → s.sendQ = ⟨.publish tag again, false, n⟩ :: rest →
      s.table.find tag = some e →
      ∃ t, exec .rightToOpen s = .next t ∧ t.sendQ = ⟨.publish tag false, true, n⟩ :: rest ∧
        t.fe.tx = .contending ∧ t.fe.role = .transmitter ∧
        t.fe.snapshot = some (mkSnapshot ⟨.publish, tag, e.pair.version, e.pair.origin⟩
          (publishDesc e.cls e.persistent (BitVec.ofNat 6 e.value.length)) (bytesToBits e.value) (some e.pair)) ∧
        t.line.driveBda = true ∧ t.line.right = false ∧ s.keepsAllBut t [.line, .fe, .sendQ] = true) ∧
    (∀ n rest cfg, s.fe.tx = .waiting → s.sendQ = ⟨.beacon, false, n⟩ :: rest → s.control.config = some cfg →
      ∃ t, exec .rightToOpen s = .next t ∧ t.sendQ = ⟨.beacon, true, n⟩ :: rest ∧
        t.fe.tx = .contending ∧ t.fe.role = .transmitter ∧
        t.fe.snapshot = some (mkSnapshot ⟨.beacon, 0xFFF#12, s.sync.ownIncarnation ++ cfg.period, cfg.station⟩
          (if s.control.link = .joining then 0x80#8 else 0x00#8)
          (msbBits 8 (BitVec.ofNat 8 s.table.entries.length) ++ msbBits 16 s.table.summary) none) ∧
        t.line.driveBda = true ∧ t.line.right = false ∧ s.keepsAllBut t [.line, .fe, .sendQ] = true)

/-- R71, R122, R128, R97, R127: RIGHT_TO_OPEN on a DIGEST or PULL head: the range end and the pull list are formed at the
opening, and a PULL that would list nothing is removed unsent. -/
def Obligations.RightToOpenFormsDigestAndPull : Prop :=
  ∀ s : State, s.onBus = true → s.line.cond = .idle → s.line.driveBck = false → s.line.driveBda = false →
    s.fe.tx = .waiting →
    (∀ n rest, s.sendQ = ⟨.digest, false, n⟩ :: rest →
      let beyond := s.table.entries.filter fun e => decide (s.sync.cursor.toNat ≤ e.tag.toNat)
      let stop := if 8 < beyond.length then ((beyond.take 8).getLast?.map (·.tag)).getD 0xFFE#12 else 0xFFE#12
      ∃ t, exec .rightToOpen s = .next t ∧ t.sendQ = ⟨.digest, true, n⟩ :: rest ∧ t.fe.tx = .contending ∧
        t.fe.snapshot = some (digestSnapshotFrame s.control.ownId s.sync.cursor stop
          ((beyond.take 8).map fun e => ⟨e.tag, e.pair⟩)) ∧
        t.sync = { s.sync with rangeEnd := some stop } ∧ t.line.driveBda = true ∧
        s.keepsAllBut t [.line, .fe, .sendQ, .sync] = true) ∧
    (∀ n rest tags, s.sendQ = ⟨.pull, false, n⟩ :: rest → tags ≠ [] →
      tags = ((s.sync.wanted.filter fun w => decide (w.asks < 3) && decide (w.nextAsk ≤ s.now)).take 8).map (·.tag) →
      ∃ t, exec .rightToOpen s = .next t ∧ t.sendQ = ⟨.pull, true, n⟩ :: rest ∧ t.fe.tx = .contending ∧
        t.fe.snapshot = some (pullSnapshot s.control.ownId tags) ∧ t.sync.pullList = tags ∧
        t.sync.wanted = s.sync.wanted.map (fun w => if w.tag ∈ tags then
          { w with asks := w.asks + 1, nextAsk := s.now + s.control.ownPeriod } else w) ∧
        t.line.driveBda = true ∧ s.keepsAllBut t [.line, .fe, .sendQ, .sync] = true) ∧
    (∀ n, s.sendQ = [⟨.pull, false, n⟩] →
      (∀ w ∈ s.sync.wanted, ¬(w.asks < 3 ∧ w.nextAsk ≤ s.now)) →
      ∃ t, exec .rightToOpen s = .next t ∧ t.sendQ = [] ∧ t.fe.tx = .idle ∧ t.line.right = true ∧
        t.line.driveBda = false ∧ s.keepsAllBut t [.line, .fe, .sendQ] = true)

/-- R46, R43, R79, R69: OPENING_MARK, with BCK high, opens a frame with seen-idle set outside STUCK, passes unremarked in an
open frame, and is a low otherwise. R47, R70, R79, R90, R77, Table 42: END_MARK, with BCK high and BDA not pulled by this
station (beyond its closing bit's release), ends the frame; the transmit machine rests. A late loss not confirmed counts an
attempt; an end mark before the outcome is fixed counts none, and the item is WAITING again (R86 names the events that count
one; log entry 14: what becomes of the item is the model's choice). With BCK low neither is a mark (the model's choice, log
entry 20). -/
def Obligations.MarksOpenAndEndAFrame : Prop :=
  (∀ s : State, s.tracks = true → s.line.bck = true →
     (s.line.frameOpen = false → s.line.seenIdle = true → s.line.cond ≠ .stuck → ∃ t, exec .openingMark s = .next t ∧
       t.line.frameOpen = true ∧ t.line.cond = .frame ∧ t.line.right = false ∧ t.line.bda = false ∧
       t.fe.rx = .header ∧ t.fe.buf = .initial ∧ t.fe.vote = none ∧ t.fe.loss = none ∧
       t.fe.role = (if s.line.driveBda then .transmitter else if s.onBus then .receiver else .none) ∧
       t.fe.tx = s.fe.tx ∧ t.fe.snapshot = s.fe.snapshot ∧ s.keepsAllBut t [.line, .fe] = true) ∧
     (s.line.frameOpen = true ∨ s.line.seenIdle = false ∨ s.line.cond = .stuck → ∃ t, exec .openingMark s = .next t ∧
       t.line.frameOpen = s.line.frameOpen ∧ t.line.cond = s.line.cond ∧ t.line.quiet = 0 ∧ t.line.recovery = 0 ∧
       t.line.bda = false ∧ s.keepsAllBut t [.line] = true)) ∧
  (∀ s : State, s.tracks = true → s.line.bck = false → s.line.cond ≠ .idle →
     ∀ c ∈ [Instr.openingMark, .endMark], ∃ t, exec c s = .next t ∧ t.line.frameOpen = s.line.frameOpen ∧
       t.line.cond = s.line.cond ∧ s.keepsAllBut t [.line] = true) ∧
  (∀ s : State, s.tracks = true → s.line.frameOpen = true → s.line.bck = true →
     (s.line.placing = some true ∨ (s.line.placing = none ∧ s.line.driveBda = false)) →
     ∃ t, exec .endMark s = .next t ∧ t.line.frameOpen = false ∧ t.line.cond = s.line.cond ∧
       t.line.yieldOwed = (s.fe.role == .transmitter) ∧ t.line.driveBck = false ∧ t.line.driveBda = false ∧
       t.line.bda = true ∧ t.fe.rx = .hunt ∧ t.fe.role = .none ∧
       (s.fe.tx = .idle ∨ s.fe.tx = .waiting ∨ (s.fe.tx = .voting ∧ s.fe.outcomeFixed = true) →
         (s.fe.tx = .voting → t.fe.tx = (if s.sendQ = [] then .idle else .waiting) ∧ t.fe.snapshot = none) ∧
         (s.fe.tx ≠ .voting → t.fe.tx = s.fe.tx) ∧
         t.reports = { s.reports with partEnded := s.reports.partEnded || s.hasPart } ∧
         s.keepsAllBut t [.line, .fe, .reports] = true) ∧
       (∀ item rest, s.fe.tx = .contending ∨ s.fe.tx = .sending ∨ (s.fe.tx = .voting ∧ s.fe.outcomeFixed = false) →
         s.sendQ = item :: rest → item.inFlight = true →
         t.sendQ = { item with inFlight := false } :: rest ∧ t.fe.tx = .waiting ∧ t.fe.snapshot = none ∧
         s.keepsAllBut t [.line, .fe, .reports, .sendQ, .sync] = true) ∧
       (∀ item rest, s.fe.tx = .lostLate → s.fe.buf.good ≠ some true → s.sendQ = item :: rest → item.inFlight = true →
         item.attempts + 1 < 4 →
         t.sendQ = { item with inFlight := false, attempts := item.attempts + 1 } :: rest ∧ t.fe.tx = .waiting ∧
         t.fe.snapshot = none ∧ t.fe.loss = none ∧ s.keepsAllBut t [.line, .fe, .reports, .sendQ, .sync] = true))

/-- R50, R52, R84, R86, R87, R98, R77: HOLD_LIMIT and FRAME_BROKEN. A station that sends nothing leaves the frame. At a hold
limit before its outcome a transmitter counts an attempt: the item returns to WAITING at the head, or at the fourth ends
UNDELIVERED. A broken frame counts one at a station that lost late without confirmation, and the quiet count has run if BDA is
high. (That the 0 of the own vote is let go at a broken frame is the model's choice: log entry 55.) -/
def Obligations.AbandonedFramesCountAnAttempt : Prop :=
  (∀ s : State, s.tracks = true → s.line.frameOpen = true → ∃ t, exec .holdLimit s = .next t ∧
     t.line.frameOpen = false ∧ t.line.cond = .held ∧ t.line.driveBck = false ∧ t.line.driveBda = false ∧
     t.line.yieldOwed = (s.fe.role == .transmitter) ∧ t.fe.rx = .hunt ∧ t.fe.role = .none ∧
     (s.fe.tx = .idle ∨ s.fe.tx = .waiting → t.fe.tx = s.fe.tx ∧ s.keepsAllBut t [.line, .fe, .reports] = true) ∧
     (∀ item rest, s.fe.tx = .contending ∨ s.fe.tx = .sending ∨ s.fe.tx = .lostLate ∨
         (s.fe.tx = .voting ∧ s.fe.outcomeFixed = false) → s.sendQ = item :: rest → item.inFlight = true →
       t.fe.snapshot = none ∧
       (item.attempts + 1 < 4 →
         t.sendQ = { item with inFlight := false, attempts := item.attempts + 1 } :: rest ∧ t.fe.tx = .waiting ∧
         s.keepsAllBut t [.line, .fe, .reports, .sendQ, .sync] = true) ∧
       (4 ≤ item.attempts + 1 →
         (∀ tag again, item.payload = .publish tag again →
           t.sendQ = (if again && s.onBus then rest ++ [⟨.publish tag false, false, 0⟩] else rest) ∧
           t.port.notices = postInto s.port.notices
             ⟨.undelivered, some tag, none, s.fe.snapshot.bind (·.captured), some .publish⟩) ∧
         (∀ r, (item.payload = .pull ∧ r = Reason.pull) ∨ (item.payload = .digest ∧ r = .digest) ∨
             (item.payload = .beacon ∧ r = .beacon) →
           t.port.notices = postInto s.port.notices ⟨.undelivered, none, none, none, some r⟩) ∧
         s.keepsAllBut t [.line, .fe, .reports, .sendQ, .sync, .port] = true))) ∧
  (∀ s : State, s.tracks = true → s.line.frameOpen = true → s.fe.role ≠ .transmitter →
     ∃ t, exec .frameBroken s = .next t ∧ t.line.frameOpen = false ∧ t.line.cond = .frame ∧ t.line.yieldOwed = false ∧
       t.line.driveBck = false ∧ t.line.driveBda = false ∧ t.fe.rx = .hunt ∧ t.fe.role = .none ∧
       (s.line.bda = true → 4 * s.control.bitTime ≤ t.line.quiet) ∧
       (s.fe.tx = .idle ∨ s.fe.tx = .waiting → t.fe.tx = s.fe.tx ∧ s.keepsAllBut t [.line, .fe, .reports] = true) ∧
       (∀ item rest, s.fe.tx = .lostLate → s.fe.buf.good ≠ some true → s.sendQ = item :: rest → item.inFlight = true →
         item.attempts + 1 < 4 →
         t.sendQ = { item with inFlight := false, attempts := item.attempts + 1 } :: rest ∧ t.fe.tx = .waiting ∧
         t.fe.snapshot = none ∧ t.fe.loss = none ∧ s.keepsAllBut t [.line, .fe, .reports, .sendQ, .sync] = true))

/-- R53, R54, R86, R87, R159: STUCK_LIMIT and RECOVERY change the condition and report to Station Control. At the stuck limit a
transmitter before its outcome counts an attempt: the item returns to WAITING at the head, or at the fourth ends UNDELIVERED;
once the outcome is fixed, it stands. That an attempt is counted also where the own opening mark was driven and not taken, so
that no frame is open, is the model's choice (log entry 53). -/
def Obligations.StuckAndRecoveredLines : Prop :=
  ∀ s : State, s.tracks = true →
    (∀ l : Line, s.line.cond ≠ .stuck → ∃ t, exec (.stuckLimit l) s = .next t ∧ t.line.cond = .stuck ∧
      t.line.frameOpen = false ∧ t.line.seenIdle = false ∧ t.line.yieldOwed = false ∧ t.line.right = false ∧
      t.line.driveBck = false ∧ t.line.driveBda = false ∧ t.reports.busStuck = true ∧
      (s.line.frameOpen = true → t.fe.rx = .hunt ∧ t.fe.role = .none) ∧
      (s.fe.tx = .idle ∨ s.fe.tx = .waiting → s.keepsAllBut t [.line, .fe, .reports] = true) ∧
      (s.fe.tx = .voting → s.fe.outcomeFixed = true → s.keepsAllBut t [.line, .fe, .reports] = true) ∧
      (∀ item rest, s.fe.tx = .contending ∨ s.fe.tx = .sending ∨ s.fe.tx = .lostLate ∨
          (s.fe.tx = .voting ∧ s.fe.outcomeFixed = false) → s.sendQ = item :: rest → item.inFlight = true →
        t.fe.snapshot = none ∧
        (item.attempts + 1 < 4 →
          t.sendQ = { item with inFlight := false, attempts := item.attempts + 1 } :: rest ∧ t.fe.tx = .waiting ∧
          s.keepsAllBut t [.line, .fe, .reports, .sendQ, .sync] = true) ∧
        (4 ≤ item.attempts + 1 →
          (∀ tag again, item.payload = .publish tag again →
            t.sendQ = (if again && s.onBus then rest ++ [⟨.publish tag false, false, 0⟩] else rest) ∧
            t.port.notices = postInto s.port.notices
              ⟨.undelivered, some tag, none, s.fe.snapshot.bind (·.captured), some .publish⟩) ∧
          (∀ r, (item.payload = .pull ∧ r = Reason.pull) ∨ (item.payload = .digest ∧ r = .digest) ∨
              (item.payload = .beacon ∧ r = .beacon) →
            t.port.notices = postInto s.port.notices ⟨.undelivered, none, none, none, some r⟩) ∧
          s.keepsAllBut t [.line, .fe, .reports, .sendQ, .sync, .port] = true))) ∧
    (s.line.cond = .stuck → ∃ t, exec .recovery s = .next t ∧ t.line.cond = .idle ∧ t.line.seenIdle = true ∧
      t.line.quiet = 64 * s.control.bitTime ∧ t.reports = { s.reports with busRecovered := true } ∧
      s.keepsAllBut t [.line, .reports] = true)

/-- R42, R43, R47: BCK_FALL, a fall not yet taken, and CLOCK_HALF_END at a transmitter: it follows every fall through its
closing bit by driving BCK low and timing a low half, with its next bit to be placed; at the end of the low half it releases
BCK, at the end of a high half it drives it. A fall beyond its closing bit ends its part: the role stays, and nothing more is
placed or driven (the model's choice, log entry 43). -/
def Obligations.TransmitterClocksTheLine : Prop :=
  ∀ (s : State) (f : Snapshot), s.tracks = true → s.line.frameOpen = true → s.fe.role = .transmitter →
    s.fe.snapshot = some f →
    (s.line.bck = true ∨ s.line.bckSeen = true → s.fe.rx ≠ .discard → s.fe.rx ≠ .hunt →
      s.fe.buf.bits.length + 1 ≤ 62 + f.body.length →
      (∀ len, s.fe.buf.bodyLen = some len → s.fe.buf.bits.length + 1 ≤ 62 + len) →
      ∃ t, exec .bckFall s = .next t ∧ t.line.bck = false ∧ t.line.driveBck = true ∧ t.line.phase = .low ∧
        t.line.halfTimer = some 0 ∧ t.line.placing = some (f.bitAt (s.fe.buf.bits.length + 1)) ∧
        s.keepsAllBut t [.line] = true) ∧
    (∀ len, s.line.bck = true ∨ s.line.bckSeen = true → s.fe.rx ≠ .discard → s.fe.rx ≠ .hunt →
      s.fe.buf.bodyLen = some len → 62 + len < s.fe.buf.bits.length + 1 →
      ∃ t, exec .bckFall s = .next t ∧ t.fe.rx = .discard ∧ t.fe.role = .transmitter ∧
        t.line.driveBck = s.line.driveBck ∧ t.line.placing = s.line.placing ∧
        t.reports = { s.reports with partEnded := s.reports.partEnded || s.onBus } ∧
        s.keepsAllBut t [.line, .fe, .reports] = true) ∧
    (s.line.halfTimer.isSome = true → ∃ t, exec .clockHalfEnd s = .next t ∧
      t.line.driveBck = (s.line.phase != .low) ∧ (s.line.phase ≠ .low → t.line.bck = false) ∧
      (s.line.phase = .low → t.line.bck = s.line.othersBck) ∧ t.line.halfTimer = none ∧
      t.line.driveBda = s.line.driveBda ∧ s.keepsAllBut t [.line] = true)

/-- R49, R81, R48, R76, R82, R83, R84: BCK_FALL, a fall not yet taken, at a receiver in JOINING or ACTIVE. It holds BCK at the
lookup point of a PUBLISH frame, and at the decision point of every frame it will vote on: a PUBLISH, and a BEACON, DIGEST or
PULL unless that is a well-formed one of its own ID with a good check code, or a confirmed late loss. In DISCARD, and at
every other position through the closing bit, it holds nothing; in the slots behind the decision point it has its vote to
place, 0 in the slot of a RETRY or a REJECT and 1 otherwise. A fall beyond the closing bit makes it DISCARD. -/
def Obligations.ReceiverHoldsAtItsPoints : Prop :=
  ∀ s : State, s.onBus = true → s.line.frameOpen = true → s.fe.role = .receiver →
    s.line.bck = true ∨ s.line.bckSeen = true →
    (s.fe.rx = .discard → ∃ t, exec .bckFall s = .next t ∧ t.line.driveBck = s.line.driveBck ∧
      t.line.hold = s.line.hold ∧ s.keepsAllBut t [.line] = true) ∧
    (s.fe.rx ≠ .discard → s.fe.rx ≠ .hunt →
      (∀ h, s.fe.buf.header = some h → h.kind = .publish → s.fe.buf.bits.length = 34 → s.fe.buf.bodyLen = none →
        ∃ t, exec .bckFall s = .next t ∧ t.line.bck = false ∧ t.line.driveBck = true ∧ t.line.hold = .lookup ∧
          s.keepsAllBut t [.line] = true) ∧
      (∀ f len, s.fe.buf.content = some (.publish f) → s.fe.buf.bodyLen = some len →
        s.fe.buf.bits.length = 58 + len →
        ∃ t, exec .bckFall s = .next t ∧ t.line.bck = false ∧ t.line.driveBck = true ∧ t.line.hold = .decision ∧
          t.fe.deciding = true ∧ s.keepsAllBut t [.line, .fe] = true) ∧
      (∀ c sender len, s.fe.buf.content = some c → c.sender? = some sender → s.fe.buf.bodyLen = some len →
        s.fe.buf.bits.length = 58 + len →
        let votes := !(s.fe.buf.good == some true && ((c.wellFormed && sender == s.control.ownId) || s.fe.tx == .lostLate))
        ∃ t, exec .bckFall s = .next t ∧ t.line.driveBck = votes ∧
          (votes = true ∨ s.line.driveBck = false → t.line.bck = false) ∧
          t.line.hold = (if votes then .decision else .none) ∧ t.fe.deciding = true ∧
          s.keepsAllBut t [.line, .fe] = true) ∧
      ((s.fe.buf.bits.length = 34 → s.fe.buf.header.map (·.kind) ≠ some .publish) →
        (∀ len, s.fe.buf.bodyLen = some len →
          s.fe.buf.bits.length + 1 ≤ 62 + len ∧ s.fe.buf.bits.length + 1 ≠ 59 + len) →
        ∃ t, exec .bckFall s = .next t ∧ t.line.bck = false ∧ t.line.driveBck = s.line.driveBck ∧
          t.line.hold = s.line.hold ∧ s.keepsAllBut t [.line] = true ∧
          (s.fe.rx ≠ .vote ∨ s.fe.vote = none → t.line.placing = none) ∧
          (∀ vote len, s.fe.rx = .vote → s.fe.vote = some vote → s.fe.buf.bodyLen = some len →
            59 + len < s.fe.buf.bits.length + 1 →
            t.line.placing = some (if (vote = .retry ∧ s.fe.buf.bits.length + 1 = 60 + len) ∨
              (vote = .reject ∧ s.fe.buf.bits.length + 1 = 61 + len) then false else true))) ∧
      (∀ len, s.fe.buf.bodyLen = some len → 62 + len < s.fe.buf.bits.length + 1 →
        ∃ t, exec .bckFall s = .next t ∧ t.fe.rx = .discard ∧ t.line.driveBck = s.line.driveBck ∧
          s.keepsAllBut t [.line, .fe, .reports] = true))

/-- R43, R48, R70, R72, R79, Tables 42 and 43: BIT_TAKEN. A station that does not transmit takes the level of BDA as the next
bit; a transmitter that placed 0 takes 0, and one that placed 1 and reads 1 goes on: CONTENDING to SENDING at position 34,
SENDING to VOTING at 58 + B. The receive machine moves by position. In VOTE a receiver's own vote pulls its slot to 0, a
transmitter takes the slots as read, and its closing bit as 0, after which it releases BDA (R47); it times a high half after
every bit but that (R42). In DISCARD no bit is taken. -/
def Obligations.BitIsTakenAtTheRise : Prop :=
  ∀ (s : State) (level : Bool), s.tracks = true → s.line.frameOpen = true → s.line.hold ≠ .decision →
    let n := s.fe.buf.bits.length + 1
    (s.fe.rx = .header ∨ s.fe.rx = .body ∨ s.fe.rx = .check → ∃ t, exec (.bitTaken level) s = .next t ∧
      (n < 34 → t.fe.rx = .header) ∧ (34 ≤ n → n < 42 → t.fe.rx = .body) ∧
      (∀ len, t.fe.buf.bodyLen = some len → 42 ≤ n →
        t.fe.rx = if n < 42 + len then .body else if n < 58 + len then .check else .vote) ∧
      (s.fe.role ≠ .transmitter → s.fe.tx = .idle ∨ s.fe.tx = .waiting → s.line.placing = none →
        s.line.driveBda = false →
        t.fe.buf.bits = s.fe.buf.bits ++ [level] ∧ t.line.bck = true ∧ t.line.bda = level ∧ t.fe.tx = s.fe.tx ∧
        t.fe.role = s.fe.role ∧ s.keepsAllBut t [.line, .fe] = true) ∧
      (∀ f, s.fe.role = .transmitter → s.fe.tx = .contending ∨ s.fe.tx = .sending → s.fe.snapshot = some f →
        n ≤ 62 + f.body.length → (f.bitAt n = false ∨ level = true) →
        t.fe.buf.bits = s.fe.buf.bits ++ [f.bitAt n] ∧ t.line.bck = true ∧ t.fe.role = .transmitter ∧
        t.fe.snapshot = some f ∧
        (s.fe.tx = .contending → t.fe.tx = if n = 34 then .sending else .contending) ∧
        (s.fe.tx = .sending → (∃ len, t.fe.buf.bodyLen = some len ∧ n = 58 + len) → t.fe.tx = .voting) ∧
        (s.fe.tx = .sending → (∀ len, t.fe.buf.bodyLen = some len → n ≠ 58 + len) → t.fe.tx = .sending) ∧
        (n < 62 + f.body.length → t.line.phase = .high ∧ t.line.halfTimer = some 0) ∧
        s.keepsAllBut t [.line, .fe] = true)) ∧
    (∀ len, s.fe.rx = .vote → s.fe.buf.bodyLen = some len → 58 + len ≤ s.fe.buf.bits.length →
      (∀ v, s.fe.role = .receiver → s.fe.tx = .idle ∨ s.fe.tx = .waiting → s.fe.vote = some v →
        ∃ t, exec (.bitTaken level) s = .next t ∧ t.fe.rx = .vote ∧ t.fe.vote = some v ∧
          t.fe.buf.bits = s.fe.buf.bits ++
            [level && n != (match v with | .accept => 59 + len | .retry => 60 + len | .reject => 61 + len)] ∧
          s.keepsAllBut t [.line, .fe] = true) ∧
      (s.fe.role ≠ .transmitter → s.fe.tx = .idle ∨ s.fe.tx = .waiting → s.fe.vote = none → s.line.placing = none →
        s.line.driveBda = false →
        ∃ t, exec (.bitTaken level) s = .next t ∧ t.fe.rx = .vote ∧ t.fe.buf.bits = s.fe.buf.bits ++ [level] ∧
          s.keepsAllBut t [.line, .fe] = true) ∧
      (∀ f, s.fe.role = .transmitter → s.fe.tx = .voting → s.fe.snapshot = some f → f.body.length = len →
        (n < 61 + len → ∃ t, exec (.bitTaken level) s = .next t ∧ t.fe.buf.bits = s.fe.buf.bits ++ [level] ∧
          t.fe.tx = .voting ∧ t.fe.outcomeFixed = s.fe.outcomeFixed ∧ t.line.phase = .high ∧
          t.line.halfTimer = some 0 ∧ s.keepsAllBut t [.line, .fe] = true) ∧
        (n = 62 + len → ∃ t, exec (.bitTaken level) s = .next t ∧ t.fe.buf.bits = s.fe.buf.bits ++ [false] ∧
          t.fe.tx = .voting ∧ t.line.placing = some true ∧ t.line.driveBck = false ∧ t.line.halfTimer = none ∧
          s.keepsAllBut t [.line, .fe] = true))) ∧
    (s.fe.rx = .discard → s.fe.role ≠ .transmitter → s.fe.tx = .idle ∨ s.fe.tx = .waiting →
      ∃ t, exec (.bitTaken level) s = .next t ∧ t.line.bck = true ∧ s.keepsAllBut t [.line] = true)

/-! ### Frame Engine (Chapter 5) -/

/-- R73: ARBITRATION_LOSS: the item returns to WAITING at the head, and the station goes on as a receiver that has taken the 0,
without a notice. R74, R77: LATE_LOSS: the item stays IN_FLIGHT, the snapshot is kept and the loss position recorded; at the
last check bit with a bad check code the loss is not confirmed and counts an attempt. -/
def Obligations.LossesMakeAReceiver : Prop :=
  (∀ (s : State) (f : Snapshot) (item : SendItem) (rest : List SendItem), s.tracks = true → s.line.frameOpen = true →
     s.line.hold ≠ .decision → s.fe.tx = .contending → s.fe.role = .transmitter → s.fe.rx = .header →
     s.fe.snapshot = some f → f.bitAt (s.fe.buf.bits.length + 1) = true → s.sendQ = item :: rest →
     item.inFlight = true →
     ∃ t, exec .arbitrationLoss s = .next t ∧ t.sendQ = { item with inFlight := false } :: rest ∧ t.fe.tx = .waiting ∧
       t.fe.role = .receiver ∧ t.fe.snapshot = none ∧ t.fe.buf.bits = s.fe.buf.bits ++ [false] ∧
       t.line.driveBck = false ∧ t.line.driveBda = false ∧
       (item.payload = .digest → t.sync = { s.sync with rangeEnd := none }) ∧
       (item.payload = .pull → t.sync = { s.sync with
         pullList := []
         wanted := s.sync.wanted.map fun w =>
           if w.tag ∈ s.sync.pullList then { w with asks := w.asks - 1, nextAsk := s.now } else w }) ∧
       (item.payload ≠ .digest → item.payload ≠ .pull → t.sync = s.sync) ∧
       s.keepsAllBut t [.line, .fe, .sendQ, .sync] = true) ∧
  (∀ (s : State) (f : Snapshot), s.tracks = true → s.line.frameOpen = true → s.line.hold ≠ .decision →
     s.fe.tx = .sending → s.fe.role = .transmitter → s.fe.rx = .body ∨ s.fe.rx = .check → s.fe.snapshot = some f →
     f.bitAt (s.fe.buf.bits.length + 1) = true →
     ∃ t, exec .lateLoss s = .next t ∧ t.fe.role = .receiver ∧ t.fe.buf.bits = s.fe.buf.bits ++ [false] ∧
       t.line.driveBck = false ∧ t.line.driveBda = false ∧
       ((s.fe.buf.bits.length ≤ 41 ∧ s.fe.buf.bodyLen = none) ∨
           (∃ len, s.fe.buf.bodyLen = some len ∧ 42 ≤ s.fe.buf.bits.length ∧
             (s.fe.buf.bits.length + 1 < 58 + len ∨ (s.fe.buf.bits.length + 1 = 58 + len ∧ t.fe.buf.good = some true))) →
         t.fe.tx = .lostLate ∧ t.fe.loss = some (s.fe.buf.bits.length + 1) ∧ t.fe.snapshot = some f ∧
         s.keepsAllBut t [.line, .fe] = true) ∧
       (∀ len item rest, s.fe.buf.bodyLen = some len → 42 ≤ s.fe.buf.bits.length →
         s.fe.buf.bits.length + 1 = 58 + len → t.fe.buf.good = some false → s.sendQ = item :: rest →
         item.inFlight = true → item.attempts + 1 < 4 →
         t.sendQ = { item with inFlight := false, attempts := item.attempts + 1 } :: rest ∧ t.fe.tx = .waiting ∧
         t.fe.snapshot = none ∧ t.fe.loss = none ∧ s.keepsAllBut t [.line, .fe, .sendQ, .sync] = true))

/-- R76, R75, R69, R99: LATE_LOSS_CONFIRMED: for PULL, DIGEST and BEACON frames DUPLICATE_ID is reported with no vote and no
hold. For a PUBLISH frame the vote is cast, DIVERGED is posted with the captured pair and the loss position's reason, and the
item is removed, a set again mark queueing a new one: by case 5 of Table 11 (another class or persistent bit) and case 9 (the
held pair, another value) the vote is REJECT, after a DIVERGED of the table's own; by case 10 (a later held pair) it is
ACCEPT, and no correction is added. The loss position stays until the next opening mark. -/
def Obligations.ConfirmedLateLossIsReported : Prop :=
  ∀ s : State, s.onBus = true → s.fe.tx = .lostLate → s.fe.buf.good = some true →
    (∀ c, s.fe.buf.content = some c → (∀ f, c ≠ .publish f) →
      ∃ t, exec .lateLossConfirmed s = .next t ∧ t.reports = { s.reports with duplicateId := true } ∧
        t.fe.vote = s.fe.vote ∧ t.line.driveBck = false ∧ t.line.hold = .none ∧
        s.keepsAllBut t [.line, .fe, .reports] = true) ∧
    (∀ f e again n rest p, s.fe.buf.content = some (.publish f) → s.fe.deciding = true → f.malformed = false →
      s.table.find f.tag = some e → s.sendQ = ⟨.publish f.tag again, true, n⟩ :: rest → s.fe.loss = some p →
      let removed := if again then rest ++ [⟨.publish f.tag false, false, 0⟩] else rest
      let own : Notice := ⟨.diverged, some f.tag, none, s.fe.snapshot.bind (·.captured),
        some (if p ≤ 36 then .attributes else .value)⟩
      ∃ t, exec .lateLossConfirmed s = .next t ∧
        ((e.cls ≠ f.cls ∨ e.persistent ≠ f.persistent) → t.fe.vote = some .reject ∧
          t.port.notices = postInto
            (postInto s.port.notices ⟨.diverged, some f.tag, none, some f.pair, some .attributes⟩) own) ∧
        (e.cls = f.cls → e.persistent = f.persistent → (e.cls = .owned → e.owner = some f.pair.origin) →
          e.pair = f.pair → e.value ≠ f.value → t.fe.vote = some .reject ∧
          t.port.notices = postInto
            (postInto s.port.notices ⟨.diverged, some f.tag, none, some f.pair, some .value⟩) own) ∧
        (e.cls = f.cls → e.persistent = f.persistent → (e.cls = .owned → e.owner = some f.pair.origin) →
          e.pair.later f.pair = true → t.fe.vote = some .accept ∧ t.port.notices = postInto s.port.notices own) ∧
        ((e.cls ≠ f.cls ∨ e.persistent ≠ f.persistent) ∨
            ((e.cls = .owned → e.owner = some f.pair.origin) ∧
              ((e.pair = f.pair ∧ e.value ≠ f.value) ∨ e.pair.later f.pair = true)) →
          t.table = s.table ∧ t.sendQ = removed ∧ t.fe.tx = (if removed = [] then .idle else .waiting) ∧
          t.fe.snapshot = none ∧ t.fe.loss = some p ∧ t.line.hold = .none ∧ t.line.driveBck = false ∧
          s.keepsAllBut t [.line, .fe, .sendQ, .port] = true))

/-- R85, R86, R87, R99, R14, Tables 44 and 45: VOTE_OUTCOME for a PUBLISH item: a RETRY slot of 0 counts an attempt; otherwise
a REJECT slot of 0 ends it REJECTED; otherwise it is DELIVERED or UNHEARD, and the pending mark is cleared if the captured
pair is held. A set again mark queues a new item. The transmit machine stays in VOTING until the end mark; after a RETRY below
four attempts, where R86 has it go to WAITING and Table 42 has it stay, that is the model's choice (log entry 15). -/
def Obligations.VoteOutcomeIsFixedAndApplied : Prop :=
  ∀ (s : State) (f : Snapshot) (level : Bool) (tag : Tag) (again : Bool) (n : Nat) (rest : List SendItem) (len : Nat),
    s.onBus = true → s.line.frameOpen = true → s.line.hold ≠ .decision → s.fe.tx = .voting →
    s.fe.outcomeFixed = false → s.fe.role = .transmitter → s.fe.rx = .vote → s.fe.snapshot = some f →
    s.fe.buf.bodyLen = some len → f.body.length = len → s.fe.buf.bits.length = 60 + len →
    s.sendQ = ⟨.publish tag again, true, n⟩ :: rest →
    let retry := s.fe.buf.bits.getD (59 + len) true
    let removed := if again then rest ++ [⟨.publish tag false, false, 0⟩] else rest
    ∃ t, exec (.voteOutcome level) s = .next t ∧ t.fe.tx = .voting ∧ t.fe.outcomeFixed = true ∧
      (retry = false → n + 1 < 4 → t.sendQ = ⟨.publish tag again, false, n + 1⟩ :: rest ∧
        s.keepsAllBut t [.line, .fe, .sendQ] = true) ∧
      (retry = false → 4 ≤ n + 1 → t.sendQ = removed ∧
        t.port.notices = postInto s.port.notices ⟨.undelivered, some tag, none, f.captured, some .publish⟩ ∧
        s.keepsAllBut t [.line, .fe, .sendQ, .port] = true) ∧
      (retry = true → level = false → t.sendQ = removed ∧
        t.port.notices = postInto s.port.notices ⟨.rejected, some tag, none, f.captured, none⟩ ∧
        s.keepsAllBut t [.line, .fe, .sendQ, .port] = true) ∧
      (retry = true → level = true → t.sendQ = removed ∧
        (∀ u : Tag, t.table.find u = (s.table.find u).map fun e =>
          if u = tag ∧ f.captured = some e.pair then { e with unsent := false } else e) ∧
        t.table.summary = s.table.summary ∧ s.keepsAllBut t [.line, .fe, .sendQ, .table] = true)

/-- R85, R86, R87, R98, R123, R124, R127, R129, Table 45: VOTE_OUTCOME for a PULL, DIGEST or BEACON item: a RETRY slot of 0
counts an attempt and the item is WAITING again, a DIGEST without its range end and a PULL with its wanted entries due again.
At the fourth attempt UNDELIVERED is posted, and otherwise no notice, and in both the item is removed: behind a PULL another
is queued while some entry is due; a DIGEST's run goes on behind the range it carried, or ends, as it does at UNDELIVERED and
with 0xFFE. The transmit machine stays in VOTING; after a RETRY below four attempts that is the model's choice (log entry 15,
as R86 has it go to WAITING). -/
def Obligations.VoteOutcomeOfTheSyncUnitsItems : Prop :=
  ∀ (s : State) (f : Snapshot) (level : Bool) (item : SendItem) (rest : List SendItem) (len : Nat),
    s.onBus = true → s.line.frameOpen = true → s.line.hold ≠ .decision → s.fe.tx = .voting →
    s.fe.outcomeFixed = false → s.fe.role = .transmitter → s.fe.rx = .vote → s.fe.snapshot = some f →
    s.fe.buf.bodyLen = some len → f.body.length = len → s.fe.buf.bits.length = 60 + len →
    s.sendQ = item :: rest → item.inFlight = true →
    item.payload = .pull ∨ item.payload = .digest ∨ item.payload = .beacon →
    let retry := s.fe.buf.bits.getD (59 + len) true
    let ended : SyncUnit := { s.sync with
      runActive := false
      digestQueued := false
      rangeEnd := none
      settle := if s.control.link = .joining then .running 0 else s.sync.settle
      joinDigest := if s.sync.joinDigest = .running then .done else s.sync.joinDigest }
    let pulled := if s.sync.wanted.any (fun w => decide (w.asks < 3) && decide (w.nextAsk ≤ s.now)) ∧
        (findItem rest .pull).isNone = true ∧ rest.length < 16 then rest ++ [⟨.pull, false, 0⟩] else rest
    ∃ t, exec (.voteOutcome level) s = .next t ∧ t.fe.tx = .voting ∧ t.fe.outcomeFixed = true ∧
      (retry = false → item.attempts + 1 < 4 →
        t.sendQ = { item with inFlight := false, attempts := item.attempts + 1 } :: rest ∧
        (item.payload = .beacon → t.sync = s.sync) ∧
        (item.payload = .digest → t.sync = { s.sync with rangeEnd := none }) ∧
        (item.payload = .pull → t.sync = { s.sync with
          pullList := []
          wanted := s.sync.wanted.map fun w =>
            if w.tag ∈ s.sync.pullList then { w with asks := w.asks - 1, nextAsk := s.now } else w }) ∧
        s.keepsAllBut t [.line, .fe, .sendQ, .sync] = true) ∧
      (retry = false → 4 ≤ item.attempts + 1 →
        t.port.notices = postInto s.port.notices ⟨.undelivered, none, none, none,
          some (if item.payload = .pull then .pull else if item.payload = .digest then .digest else .beacon)⟩ ∧
        (item.payload = .digest → t.sendQ = rest ∧ t.sync = ended) ∧
        s.keepsAllBut t [.line, .fe, .sendQ, .sync, .port] = true) ∧
      (retry = true → s.keepsAllBut t [.line, .fe, .sendQ, .sync] = true ∧
        (item.payload = .digest → s.sync.rangeEnd = some 0xFFE#12 → t.sendQ = rest ∧ t.sync = ended) ∧
        (∀ stop, item.payload = .digest → s.sync.rangeEnd = some stop → stop ≠ 0xFFE#12 →
          t.sync.cursor = stop + 1#12 ∧ t.sync.rangeEnd = none ∧ t.sync.runActive = s.sync.runActive ∧
          t.sendQ = if s.sync.runActive = true ∧ (findItem rest .digest).isNone = true ∧ rest.length < 16 then
            rest ++ [⟨.digest, false, 0⟩] else rest)) ∧
      (retry = true ∨ 4 ≤ item.attempts + 1 →
        (item.payload = .beacon → t.sendQ = rest ∧ t.sync = s.sync) ∧
        (item.payload = .pull → t.sendQ = pulled ∧ t.sync = { s.sync with pullList := [] }))

/-! ### Received frames (Chapters 2, 7 and 8) -/

/-- R24, Table 11, R25 to R34, R81: PUBLISH_FRAME: the vote is that of the first case of Table 11 that applies, it is placed
with the hold released, and a frame that is not accepted leaves the table as it was. -/
def Obligations.PublishVoteFollowsTheCaseTable : Prop :=
  ∀ (s : State) (f : PublishContent), s.onBus = true → s.fe.role = .receiver → s.fe.deciding = true →
    s.fe.tx ≠ .lostLate → s.fe.buf.content = some (.publish f) →
    let v :=
      if s.fe.buf.good ≠ some true then Vote.retry
      else if f.tag = 0#12 ∨ f.tag = 0xFFF#12 ∨ f.pair.version = 0#16 ∨ 32 < f.length ∨ f.value.length ≠ f.length then
        .reject
      else match s.table.find f.tag with
        | none => if 96 ≤ s.table.entries.length then .reject else .accept
        | some e =>
          if e.cls ≠ f.cls ∨ e.persistent ≠ f.persistent then .reject
          else if e.cls = .owned ∧ e.owner ≠ some f.pair.origin then .reject
          else if e.pair = f.pair ∧ e.value ≠ f.value then .reject
          else .accept
    ∃ t, exec .publishFrame s = .next t ∧ t.fe.vote = some v ∧ t.fe.deciding = false ∧ t.line.hold = .none ∧
      t.line.driveBck = false ∧ t.line.driveBda = (v == .accept) ∧ (v ≠ .accept → t.table = s.table) ∧
      t.control = s.control

/-- R25, R26: a PUBLISH frame with a bad check code is answered RETRY and a malformed one REJECT; either changes no entry,
raises no notice and makes no claim. R27, R29, R30, R33: a well-formed one that is refused is answered REJECT, leaves the
table, the queues and sets as they were, and posts its one notice with the frame's tag and pair. -/
def Obligations.RefusedPublishChangesNoEntry : Prop :=
  (∀ (s : State) (f : PublishContent), s.onBus = true → s.fe.role = .receiver → s.fe.deciding = true →
     s.fe.tx ≠ .lostLate → s.fe.buf.content = some (.publish f) →
     (s.fe.buf.good ≠ some true → ∃ t, exec .publishFrame s = .next t ∧ t.fe.vote = some .retry ∧
       s.keepsAllBut t [.line, .fe] = true) ∧
     (s.fe.buf.good = some true →
       (f.tag = 0#12 ∨ f.tag = 0xFFF#12 ∨ f.pair.version = 0#16 ∨ 32 < f.length ∨ f.value.length ≠ f.length) →
       ∃ t, exec .publishFrame s = .next t ∧ t.fe.vote = some .reject ∧ s.keepsAllBut t [.line, .fe] = true)) ∧
  (∀ (s : State) (f : PublishContent), s.onBus = true → s.fe.role = .receiver → s.fe.deciding = true →
     s.fe.tx ≠ .lostLate → s.fe.buf.content = some (.publish f) → s.fe.buf.good = some true → f.malformed = false →
     ∃ t, exec .publishFrame s = .next t ∧
       (s.table.find f.tag = none → 96 ≤ s.table.entries.length → t.fe.vote = some .reject ∧
         t.port.notices = postInto s.port.notices ⟨.tableFull, some f.tag, none, some f.pair, none⟩ ∧
         s.keepsAllBut t [.line, .fe, .port] = true) ∧
       (∀ e, s.table.find f.tag = some e → (e.cls ≠ f.cls ∨ e.persistent ≠ f.persistent) → t.fe.vote = some .reject ∧
         t.port.notices = postInto s.port.notices ⟨.diverged, some f.tag, none, some f.pair, some .attributes⟩ ∧
         s.keepsAllBut t [.line, .fe, .port] = true) ∧
       (∀ e, s.table.find f.tag = some e → e.cls = f.cls → e.persistent = f.persistent → e.cls = .owned →
         e.owner ≠ some f.pair.origin → t.fe.vote = some .reject ∧
         t.port.notices = postInto s.port.notices ⟨.diverged, some f.tag, none, some f.pair, some .owner⟩ ∧
         s.keepsAllBut t [.line, .fe, .port] = true) ∧
       (∀ e, s.table.find f.tag = some e → e.cls = f.cls → e.persistent = f.persistent →
         (e.cls = .owned → e.owner = some f.pair.origin) → e.pair = f.pair → e.value ≠ f.value →
         t.fe.vote = some .reject ∧
         t.port.notices = postInto s.port.notices ⟨.diverged, some f.tag, none, some f.pair, some .value⟩ ∧
         s.keepsAllBut t [.line, .fe, .port] = true))

/-- R28, R31, R32, R35, R36, R37, R13, R6, R129, R131, R143: a PUBLISH frame that is adopted: the entry created or replaced, with
the summary, every other entry as it was; its store state, the Commit Queue and the changed mark of a commit of the record as at
every change of a record; a satisfied Wanted Set entry removed, with its tag of the pull list, and the settle timer started
again in JOINING; the waiting item suppressed; and OVERTAKEN, CHANGED and COMMIT_FAILED posted in that order. -/
def Obligations.AdoptionTakesTheFrame : Prop :=
  ∀ (s : State) (f : PublishContent), s.onBus = true → s.fe.role = .receiver → s.fe.deciding = true →
    s.fe.tx ≠ .lostLate → s.fe.buf.content = some (.publish f) → s.fe.buf.good = some true → f.malformed = false →
    let st := storeStateAfter f.persistent s.table.placeFree ((s.table.find f.tag).map (·.storeState))
    let failed : Notice := ⟨.commitFailed, some f.tag, none, none, some .storeFull⟩
    ∃ t, exec .publishFrame s = .next t ∧
      (s.table.find f.tag = none → s.table.entries.length < 96 →
        (∀ u : Tag, t.table.find u = if u = f.tag then
          some ⟨f.tag, f.cls, f.persistent, if f.cls = .owned then some f.pair.origin else none, f.pair, f.value, false,
            st, false⟩ else s.table.find u) ∧
        t.table.summary = s.table.summary + (f.tag.setWidth 16 + f.pair.version + f.pair.origin.setWidth 16) ∧
        t.port.notices = if st = .unstored then postInto s.port.notices failed else s.port.notices) ∧
      (∀ e, s.table.find f.tag = some e → e.cls = f.cls → e.persistent = f.persistent →
        (e.cls = .owned → e.owner = some f.pair.origin) → f.pair.later e.pair = true →
        (∀ u : Tag, t.table.find u = if u = f.tag then
          some { e with pair := f.pair, value := f.value, unsent := false, storeState := st } else s.table.find u) ∧
        t.table.summary = s.table.summary - (f.tag.setWidth 16 + e.pair.version + e.pair.origin.setWidth 16) +
          (f.tag.setWidth 16 + f.pair.version + f.pair.origin.setWidth 16) ∧
        t.port.notices =
          (let n1 := if e.unsent then postInto s.port.notices ⟨.overtaken, some f.tag, none, some f.pair, none⟩
            else s.port.notices
           let n2 := if e.watch then postInto n1 ⟨.changed, some f.tag, none, some f.pair, none⟩ else n1
           if st = .unstored then postInto n2 failed else n2)) ∧
      ((s.table.find f.tag = none ∧ s.table.entries.length < 96) ∨
          (∃ e, s.table.find f.tag = some e ∧ e.cls = f.cls ∧ e.persistent = f.persistent ∧
            (e.cls = .owned → e.owner = some f.pair.origin) ∧ f.pair.later e.pair = true) →
        t.fe.vote = some .accept ∧
        t.sync.wanted = s.sync.wanted.filter (fun w => !(w.tag == f.tag && !(w.pair.later f.pair))) ∧
        t.sendQ = s.sendQ.filter (fun x => !(x.payload.sameItem (.publish f.tag false) && !x.inFlight)) ∧
        t.sync = { s.sync with
          wanted := t.sync.wanted
          pullList := if s.sync.wanted.any (fun w => w.tag == f.tag && !(w.pair.later f.pair)) then
            s.sync.pullList.filter (fun u => u != f.tag) else s.sync.pullList
          settle := if s.control.link = .joining then .running 0 else s.sync.settle } ∧
        (∀ pair target image changed, s.store.engine.op = some (.commit f.tag pair target image changed) →
          t.store.engine = { s.store.engine with op := some (.commit f.tag pair target image true) }) ∧
        ((∀ pair target image changed, s.store.engine.op ≠ some (.commit f.tag pair target image changed)) →
          t.store.engine = s.store.engine) ∧
        t.store = { s.store with
          commitQ := if st = .dirty then queueCommit s.store.commitQ f.tag else s.store.commitQ
          engine := t.store.engine } ∧
        s.keepsAllBut t [.line, .fe, .table, .store, .sync, .port, .sendQ] = true)

/-- R33, R34, R37, Table 12: an accepted PUBLISH frame that is no adoption leaves the entry; an equal one suppresses the
waiting item, an earlier one claims a correction. -/
def Obligations.EqualOrEarlierPublishKeepsTheEntry : Prop :=
  ∀ (s : State) (f : PublishContent) (e : Entry), s.onBus = true → s.fe.role = .receiver → s.fe.deciding = true →
    s.fe.tx ≠ .lostLate → s.fe.buf.content = some (.publish f) → s.fe.buf.good = some true → f.malformed = false →
    s.table.find f.tag = some e → e.cls = f.cls → e.persistent = f.persistent →
    (e.cls = .owned → e.owner = some f.pair.origin) → f.pair.later e.pair = false → (f.pair = e.pair → f.value = e.value) →
    ∃ t, exec .publishFrame s = .next t ∧ t.fe.vote = some .accept ∧ s.keepsAllBut t [.line, .fe, .sendQ] = true ∧
      (f.pair = e.pair →
        t.sendQ = s.sendQ.filter (fun x => !(x.payload.sameItem (.publish f.tag false) && !x.inFlight))) ∧
      (f.pair ≠ e.pair →
        t.sendQ = if (findItem s.sendQ (.publish f.tag false)).isSome ∨ 16 ≤ s.sendQ.length then s.sendQ
          else s.sendQ ++ [⟨.publish f.tag false, false, 0⟩])

/-- R82, R107, R108: BEACON_FRAME is voted ACCEPT and brings the roster up to date, whatever its figures. R115, R121: figures
that equal the own table's change no more; figures that differ start a digest run exactly when the sender's ID is higher than
the own and no run is active. -/
def Obligations.BeaconUpdatesTheRosterAndCompares : Prop :=
  (∀ (s : State) (f : BeaconContent), s.onBus = true → s.fe.role = .receiver → s.fe.deciding = true →
     s.fe.tx ≠ .lostLate → s.fe.buf.content = some (.beacon f) → s.fe.buf.good = some true → f.wellFormed = true →
     f.sender ≠ s.control.ownId →
     ∃ t, exec .beaconFrame s = .next t ∧ t.fe.vote = some .accept ∧
       s.keepsAllBut t [.line, .fe, .sync, .port, .sendQ] = true ∧
       (f.count = BitVec.ofNat 8 s.table.entries.length → f.summary = s.table.summary →
         t.sync = { s.sync with roster := t.sync.roster } ∧ t.sendQ = s.sendQ) ∧
       ((∀ p ∈ s.sync.roster, p.station ≠ f.sender) → s.sync.roster.length < 15 →
         (⟨f.sender, false, f.incarnation, f.period, f.joining, f.count, f.summary, some 0⟩ : PeerEntry) ∈ t.sync.roster ∧
         t.sync.roster.length = s.sync.roster.length + 1 ∧
         t.port.notices = postInto s.port.notices ⟨.peerJoined, none, some f.sender, none, none⟩) ∧
       ((∀ p ∈ s.sync.roster, p.station ≠ f.sender) → 15 ≤ s.sync.roster.length →
         t.sync.roster = s.sync.roster ∧ t.port.notices = s.port.notices) ∧
       (∀ p, s.sync.peer f.sender = some p →
         t.sync.roster = s.sync.roster.map (fun q => if q.station = f.sender then
           ⟨q.station, false, f.incarnation, f.period, f.joining, f.count, f.summary, some 0⟩ else q) ∧
         t.port.notices =
           (let n1 := if p.silent then postInto s.port.notices ⟨.peerReturned, none, some f.sender, none, none⟩
             else s.port.notices
            if p.incarnation ≠ f.incarnation then postInto n1 ⟨.peerRestarted, none, some f.sender, none, none⟩ else n1))) ∧
  (∀ (s : State) (f : BeaconContent), s.onBus = true → s.fe.role = .receiver → s.fe.deciding = true →
     s.fe.tx ≠ .lostLate → s.fe.buf.content = some (.beacon f) → s.fe.buf.good = some true → f.wellFormed = true →
     f.sender ≠ s.control.ownId →
     (f.count ≠ BitVec.ofNat 8 s.table.entries.length ∨ f.summary ≠ s.table.summary) →
     ∃ t, exec .beaconFrame s = .next t ∧
       (s.sync.runActive = false → s.control.ownId.toNat < f.sender.toNat →
         t.sync.runActive = true ∧ t.sync.cursor = 0x001#12 ∧
         (s.sync.digestQueued = false → (findItem s.sendQ .digest).isNone = true → s.sendQ.length < 16 →
           t.sendQ = s.sendQ ++ [⟨.digest, false, 0⟩])) ∧
       (s.sync.runActive = true ∨ f.sender.toNat < s.control.ownId.toNat →
         t.sync.runActive = s.sync.runActive ∧ t.sendQ = s.sendQ))

/-- R83, R82: a BEACON, DIGEST or PULL frame: a bad check code is voted RETRY, a malformed frame REJECT, and one of the own ID
reports DUPLICATE_ID with no vote; none of them is handed to the Sync Unit. -/
def Obligations.UnusableFramesAreHandedToNoBlock : Prop :=
  ∀ (s : State) (c : FrameContent) (sender : StationId) (i : Instr), s.onBus = true → s.fe.role = .receiver →
    s.fe.deciding = true → s.fe.tx ≠ .lostLate → s.fe.buf.content = some c → c.sender? = some sender →
    (∀ f, c = .beacon f → i = .beaconFrame) → (∀ f, c = .digest f → i = .digestFrame) →
    (∀ f, c = .pull f → i = .pullFrame) →
    (s.fe.buf.good ≠ some true → ∃ t, exec i s = .next t ∧ t.fe.vote = some .retry ∧
      s.keepsAllBut t [.line, .fe] = true) ∧
    (s.fe.buf.good = some true → c.wellFormed = false → ∃ t, exec i s = .next t ∧ t.fe.vote = some .reject ∧
      s.keepsAllBut t [.line, .fe] = true) ∧
    (s.fe.buf.good = some true → c.wellFormed = true → sender = s.control.ownId →
      ∃ t, exec i s = .next t ∧ t.fe.vote = s.fe.vote ∧ t.line.driveBck = false ∧
        t.reports = { s.reports with duplicateId := true } ∧ s.keepsAllBut t [.line, .fe, .reports] = true)

/-- R125, R126, R109: DIGEST_FRAME: a listed tag that is absent, or listed with a later pair than the held one, is wanted
after the frame, while the Wanted Set has room for every tag the frame lists; nothing is taken from the table. -/
def Obligations.DigestEntersWantedTags : Prop :=
  ∀ (s : State) (f : DigestContent), s.onBus = true → s.fe.role = .receiver → s.fe.deciding = true →
    s.fe.tx ≠ .lostLate → s.fe.buf.content = some (.digest f) → s.fe.buf.good = some true → f.wellFormed = true →
    f.sender ≠ s.control.ownId →
    ∃ t, exec .digestFrame s = .next t ∧ t.fe.vote = some .accept ∧
      s.keepsAllBut t [.line, .fe, .sync, .sendQ, .port] = true ∧
      (s.sync.wanted.length + f.listed.length ≤ 16 → ∀ l ∈ f.listed,
        (s.table.find l.tag = none ∨ ∃ e, s.table.find l.tag = some e ∧ l.pair.later e.pair = true) →
        ∃ w ∈ t.sync.wanted, w.tag = l.tag ∧ (w.pair = l.pair ∨ w.pair.later l.pair = true)) ∧
      (∀ w ∈ s.sync.wanted, ∃ w' ∈ t.sync.wanted, w'.tag = w.tag ∧ w'.asks = w.asks ∧ w'.nextAsk = w.nextAsk)

/-- R109: a DIGEST or PULL handed to the Sync Unit restarts the silence timer of a sender the roster holds, and brings a
SILENT one back to PRESENT with PEER_RETURNED; the entry's other fields and the other entries stay. From a sender it does not
hold the roster changes in nothing. -/
def Obligations.DigestOrPullBringsItsSenderBack : Prop :=
  ∀ (s : State) (sender : StationId) (c : Instr), s.onBus = true → s.fe.role = .receiver → s.fe.deciding = true →
    s.fe.tx ≠ .lostLate → s.fe.buf.good = some true → sender ≠ s.control.ownId →
    (c = .digestFrame ∧ ∃ f, s.fe.buf.content = some (.digest f) ∧ f.wellFormed = true ∧ f.sender = sender) ∨
      (c = .pullFrame ∧ ∃ f, s.fe.buf.content = some (.pull f) ∧ f.wellFormed = true ∧ f.sender = sender) →
    ∃ t, exec c s = .next t ∧
      (s.sync.peer sender = none → t.sync.roster = s.sync.roster ∧ t.port.notices = s.port.notices) ∧
      (∀ p, s.sync.peer sender = some p →
        t.sync.roster = s.sync.roster.map (fun q =>
          if q.station = sender then { q with silent := false, timer := some 0 } else q) ∧
        t.port.notices = (if p.silent then postInto s.port.notices ⟨.peerReturned, none, some sender, none, none⟩
          else s.port.notices))

/-- R125, Table 62, R130, R94: every held tag of a DIGEST's range that the frame does not list, or lists with an earlier pair
than the held one, and every held tag that a PULL lists, has a PUBLISH item queued after the frame, if the queue had room. -/
def Obligations.AskedRecordsAreQueued : Prop :=
  ∀ s : State, s.onBus = true → s.fe.role = .receiver → s.fe.deciding = true → s.fe.tx ≠ .lostLate →
    s.fe.buf.good = some true →
    (∀ f, s.fe.buf.content = some (.pull f) → f.wellFormed = true → f.sender ≠ s.control.ownId →
      ∃ t, exec .pullFrame s = .next t ∧ t.fe.vote = some .accept ∧
        s.keepsAllBut t [.line, .fe, .sync, .sendQ, .port] = true ∧
        (s.sendQ.length + f.tags.length ≤ 16 → ∀ tag ∈ f.tags, (s.table.find tag).isSome = true →
          (findItem t.sendQ (.publish tag false)).isSome = true) ∧
        t.sync.wanted = s.sync.wanted.map (fun w =>
          if w.tag ∈ f.tags then { w with nextAsk := s.now + s.control.ownPeriod } else w)) ∧
    (∀ f, s.fe.buf.content = some (.digest f) → f.wellFormed = true → f.sender ≠ s.control.ownId →
      ∃ t, exec .digestFrame s = .next t ∧
        (s.sendQ.length + s.table.entries.length < 16 → ∀ (tag : Tag) (e : Entry), s.table.find tag = some e →
          f.start.toNat ≤ tag.toNat → tag.toNat ≤ f.stop.toNat →
          (∀ l ∈ f.listed, l.tag = tag → e.pair.later l.pair = true) →
          (findItem t.sendQ (.publish tag false)).isSome = true))

/-! ### Sync Unit timers (Chapters 7 and 8) -/

/-- R113, R96, R93: BEACON_TIMER starts the timer again and places a BEACON item at the head, or directly behind an IN_FLIGHT
head, where none is queued and the queue has room (no run waits for a place and no entry is due). R110, R111, R112:
SILENCE_TIMEOUT makes a PRESENT peer SILENT with its timer stopped, and posts PEER_LOST; behind a receipt that has just started
the timer again the expiry does not occur. -/
def Obligations.BeaconAndSilenceTimers : Prop :=
  (∀ (s : State) (time : Nat), s.onBus = true → s.sync.beaconTimer = some time → 0 < time → s.sync.runActive = false →
     (∀ w ∈ s.sync.wanted, ¬(w.asks < 3 ∧ w.nextAsk ≤ s.now)) →
     ∃ t, exec .beaconTimer s = .next t ∧ t.sync = { s.sync with beaconTimer := some 0 } ∧
       s.keepsAllBut t [.sync, .sendQ, .fe] = true ∧
       t.sendQ = (if (findItem s.sendQ .beacon).isSome ∨ 16 ≤ s.sendQ.length then s.sendQ
         else match s.sendQ with
           | [] => [⟨.beacon, false, 0⟩]
           | h :: rest => if h.inFlight then h :: ⟨.beacon, false, 0⟩ :: rest else ⟨.beacon, false, 0⟩ :: h :: rest)) ∧
  (∀ (s : State) (id : StationId) (p : PeerEntry) (time : Nat), s.onBus = true → s.sync.peer id = some p →
     p.silent = false → p.timer = some time →
     (time = 0 → exec (.silenceTimeout id) s = .next s) ∧
     (0 < time → ∃ t, exec (.silenceTimeout id) s = .next t ∧
       t.sync = { s.sync with
         roster := s.sync.roster.map fun q => if q.station = id then { q with silent := true, timer := none } else q } ∧
       t.port.notices = postInto s.port.notices ⟨.peerLost, none, some id, none, none⟩ ∧
       s.keepsAllBut t [.sync, .port] = true))

/-- R120, R121, R131, R132: LISTEN_WINDOW_END makes the run active at that step the join's run, starting one if none is;
SETTLE_ELAPSED makes the settle timer elapsed and reports JOIN_COMPLETE when the station is then ready (a timer started in this
very moment has not reached its end: log entry 5). -/
def Obligations.JoinTimersCompleteTheJoin : Prop :=
  ∀ s : State, s.control.link = .joining →
    (∀ time, s.sync.listen = some time → 0 < time → ∃ t, exec .listenWindowEnd s = .next t ∧ t.sync.listen = none ∧
      t.sync.joinDigest = .running ∧ t.sync.runActive = true ∧
      (s.sync.runActive = true → t.sync.cursor = s.sync.cursor ∧ t.sendQ = s.sendQ) ∧
      (s.sync.runActive = false → t.sync.cursor = 0x001#12) ∧
      s.keepsAllBut t [.sync, .sendQ, .fe] = true) ∧
    (∀ time, s.sync.settle = .running time → 0 < time → ∃ t, exec .settleElapsed s = .next t ∧ t.sync.settle = .elapsed ∧
      t.sync.wanted = s.sync.wanted ∧ t.sync.joinDigest = s.sync.joinDigest ∧ s.keepsAllBut t [.sync, .reports] = true ∧
      (s.sync.joinDigest = .done → s.sync.runActive = false → s.sync.wanted = [] → s.sync.joinReported = false →
        t.reports = { s.reports with joinComplete := true }) ∧
      (s.sync.joinDigest ≠ .done ∨ s.sync.runActive = true ∨ s.sync.wanted ≠ [] → t.reports = s.reports))

/-- R127: NEXT_ASK_DUE claims a PULL item when none is queued; PULL_UNANSWERED removes the entry at three asks and posts its
notice with the tag and the wanted pair. (Of an entry asked for in this very moment, whose next ask is a whole answer wait
away, neither can be said: log entry 5. That the tag leaves the pull list is the model's choice: log entry 45.) -/
def Obligations.WantedEntryIsAskedOrExpires : Prop :=
  ∀ (s : State) (tag : Tag) (w : WantedEntry), s.onBus = true → s.sync.wanted.find? (fun x => x.tag == tag) = some w →
    w.nextAsk < s.now + s.control.ownPeriod →
    (w.asks < 3 → ∃ t, exec (.nextAskDue tag) s = .next t ∧ s.keepsAllBut t [.sync, .sendQ, .fe] = true ∧
      (∀ x ∈ t.sync.wanted, x.tag = tag → x.nextAsk ≤ s.now) ∧
      t.sendQ = (if (findItem s.sendQ .pull).isSome ∨ 16 ≤ s.sendQ.length then s.sendQ
        else s.sendQ ++ [⟨.pull, false, 0⟩])) ∧
    (3 ≤ w.asks → ∃ t, exec (.pullUnanswered tag) s = .next t ∧
      t.sync.wanted = s.sync.wanted.filter (fun x => x.tag != tag) ∧
      t.sync.pullList = s.sync.pullList.filter (fun u => u != tag) ∧
      t.port.notices = postInto s.port.notices ⟨.pullUnanswered, some tag, none, some w.pair, none⟩ ∧
      s.keepsAllBut t [.sync, .port, .reports] = true)

/-! ### Station Control (Chapter 10) -/

/-- R159, R160, R161, R135: DUPLICATE_ID from JOINING or ACTIVE moves to QUIESCED with the queues cleared, and completes a
quiesce that waits; from another link state it changes nothing. QUIESCE_COMPLETE completes a quiesce that waits. -/
def Obligations.DuplicateAndQuiesceCompleteMoveToQuiesced : Prop :=
  ∀ s : State,
    (s.onBus = true → ∃ t, exec .duplicateId s = .next t ∧
      t.control = { s.control with link := .quiesced, reason := .duplicateId, quiesceWaiting := false } ∧
      t.sendQ = [] ∧ t.sync.wanted = [] ∧ t.sync.runActive = false ∧ t.sync.pullList = [] ∧ t.sync.listen = none ∧
      t.line.driveBck = false ∧ t.line.driveBda = false ∧
      t.port.notices = postInto s.port.notices ⟨.link, none, none, none, some .duplicateId⟩ ∧
      (s.control.quiesceWaiting = true → s.port.state = .working → t.port.state = .ready ∧
        t.port.response = some ⟨.ok, []⟩) ∧
      s.keepsAllBut t [.control, .line, .fe, .sendQ, .sync, .port, .reports] = true) ∧
    (s.onBus = false → ∃ t, exec .duplicateId s = .next t ∧ s.keepsAllBut t [.reports] = true) ∧
    (s.control.quiesceWaiting = true → s.control.link = .joining ∨ s.control.link = .active ∨ s.control.link = .faulted →
      ∃ t, exec .quiesceComplete s = .next t ∧
        t.control = { s.control with link := .quiesced, reason := .hostRequest, quiesceWaiting := false } ∧
        t.sendQ = [] ∧ t.sync.wanted = [] ∧ t.sync.runActive = false ∧
        t.port.notices = postInto s.port.notices ⟨.link, none, none, none, some .hostRequest⟩ ∧
        (s.port.state = .working → t.port.state = .ready ∧ t.port.response = some ⟨.ok, []⟩) ∧
        s.keepsAllBut t [.control, .line, .fe, .sendQ, .sync, .port, .reports] = true)

/-- R159, R101, R134, R111, R119, Table 78: BUS_STUCK, BUS_RECOVERED and JOIN_COMPLETE in the link states of their rows, and
in the others, where they change nothing but that the report is taken. Into FAULTED the Send Queue and the Wanted Set are
kept. Only where a frame of the station's own is still open, which R89 says a move to FAULTED does not find, its item is
WAITING again, a PULL's with its entries due: the model's choice (log entry 31). Back into JOINING the Send Queue keeps every
item before what the claims add, and the Wanted Set every entry, with its next ask set anew. -/
def Obligations.LineAndJoinReportsMoveTheLink : Prop :=
  ∀ s : State,
    (s.onBus = true → ∃ t, exec .busStuck s = .next t ∧
      t.control = { s.control with link := .faulted, reason := .busStuck } ∧
      t.line.driveBck = false ∧ t.line.driveBda = false ∧ t.sync.beaconTimer = none ∧ t.sync.listen = none ∧
      t.sync.settle = .stopped ∧ t.sync.runActive = s.sync.runActive ∧ t.sync.cursor = s.sync.cursor ∧
      t.sync.roster = s.sync.roster.map (fun p => { p with timer := none }) ∧
      (s.fe.tx = .idle ∨ s.fe.tx = .waiting ∨ (s.fe.tx = .voting ∧ s.fe.outcomeFixed = true) →
        t.sendQ = s.sendQ ∧ t.sync.wanted = s.sync.wanted) ∧
      (∀ item rest, s.fe.tx = .contending ∨ s.fe.tx = .sending ∨ s.fe.tx = .lostLate ∨
          (s.fe.tx = .voting ∧ s.fe.outcomeFixed = false) → s.sendQ = item :: rest → item.inFlight = true →
        t.sendQ = { item with inFlight := false } :: rest ∧
        (item.payload ≠ .pull → t.sync.wanted = s.sync.wanted) ∧
        (item.payload = .pull → t.sync.wanted = s.sync.wanted.map fun w =>
          if w.tag ∈ s.sync.pullList then { w with asks := w.asks - 1, nextAsk := s.now } else w)) ∧
      t.port.notices = postInto s.port.notices ⟨.link, none, none, none, some .busStuck⟩ ∧
      s.keepsAllBut t [.control, .line, .fe, .sendQ, .sync, .port, .reports] = true) ∧
    (s.control.link = .faulted → ∃ t, exec .busRecovered s = .next t ∧
      t.control = { s.control with link := .joining, reason := .busRecovered } ∧
      t.sync.beaconTimer = some 0 ∧ t.sync.listen = some 0 ∧ t.sync.joinDigest = .notYet ∧ t.sync.settle = .stopped ∧
      (∃ more, t.sendQ = s.sendQ ++ more ∧ ∀ x ∈ more, x = ⟨.digest, false, 0⟩ ∨ x = ⟨.pull, false, 0⟩) ∧
      t.sync.wanted = s.sync.wanted.map (fun w =>
        { w with nextAsk := if w.asks < 3 then s.now else s.now + s.control.ownPeriod }) ∧
      t.port.notices = postInto s.port.notices ⟨.link, none, none, none, some .busRecovered⟩ ∧
      s.keepsAllBut t [.control, .fe, .sendQ, .sync, .port, .reports] = true) ∧
    (s.control.link = .joining → ∃ t, exec .joinComplete s = .next t ∧
      t.control = { s.control with link := .active, reason := .joinComplete } ∧ t.sync.beaconTimer = s.sync.beaconTimer ∧
      t.port.notices = postInto s.port.notices ⟨.link, none, none, none, some .joinComplete⟩ ∧
      s.keepsAllBut t [.control, .sync, .port, .reports] = true) ∧
    (s.onBus = false → ∃ t, exec .busStuck s = .next t ∧ s.keepsAllBut t [.reports] = true) ∧
    (s.control.link ≠ .faulted → ∃ t, exec .busRecovered s = .next t ∧ s.keepsAllBut t [.reports] = true) ∧
    (s.control.link ≠ .joining → ∃ t, exec .joinComplete s = .next t ∧ s.keepsAllBut t [.reports] = true)

/-- R157, R56, R69, R104, R116, R118, R151, R181, R163, R150: POWER_UP and a lasting RESET_ASSERT enter START, for every
block, with the supply watch set by the level of PFAIL; a short RESET_ASSERT is taken or not (R167; which, is a free value: log
entry 13); RESET_RELEASE releases the pin. Two clauses are the model's choice: the configuration of before stands until the
start's configuration read (log entry 38), and the levels the other stations leave the lines at go on, where Table 21 has
initial values for its items (log entry 42). -/
def Obligations.PowerUpAndResetEnterStart : Prop :=
  ∀ s : State,
    (∀ (pfail : Bool) (c : Instr), c = .powerUp pfail ∨ c = .resetAssert true →
      ∃ t, exec c s = .next t ∧ t.control.link = .start ∧
        t.control.cause = (if c = .resetAssert true then .pin else .power) ∧
        t.control.returnState = .none ∧ t.control.quiesceWaiting = false ∧ t.control.filter = 0 ∧
        t.control.watch = (if t.pfailPin then .low else .good) ∧ t.control.config = s.control.config ∧
        (c = .powerUp pfail → t.pfailPin = pfail ∧ t.store.engine.op = none) ∧
        (c = .resetAssert true → t.resetPin = true ∧ t.store.engine.op = s.store.engine.op ∧
          t.store.array = s.store.array ∧ t.pfailPin = s.pfailPin) ∧
        t.line = { LineIf.initial with othersBck := s.line.othersBck, othersBda := s.line.othersBda,
                                       bckSeen := s.line.othersBck, bdaSeen := s.line.othersBda } ∧
        t.fe = .initial ∧ t.sendQ = [] ∧
        t.sync.roster = [] ∧ t.sync.wanted = [] ∧ t.sync.runActive = false ∧ t.sync.beaconTimer = none ∧
        t.store.commitQ = [] ∧ t.store.request = none ∧ t.store.repaired = false ∧
        t.port.state = .notReady ∧ t.port.notices = [] ∧ t.port.attn = false ∧ t.port.overrun = false ∧
        t.port.response = none) ∧
    (∃ t, exec (.resetAssert false) s = .next t ∧ t.free = s.free + 1 ∧
      ((t.control.link = .start ∧ t.control.cause = .pin) ∨ s.keepsAllBut t [.free] = true)) ∧
    (∃ t, exec .resetRelease s = .next t ∧ t.resetPin = false ∧ s.keepsAllBut t [.pins] = true)

/-- R158, R156, R151, R152, R153: START_SEQUENCE, when the wait of step 1 has ended (that every start waits for RESET and for
the engine is log entry 24's reading): the configuration is read, the table and the pair map are built from the array, and the
incarnation write begins. -/
def Obligations.StartSequenceReadsTheStore : Prop :=
  ∀ s : State, s.control.link = .start → s.resetPin = false → s.store.engine.op = none →
    (s.control.cause = .power → s.control.watch = .good) →
    ∃ t, exec .startSequence s = .next t ∧
      (∀ f check, s.store.array.config = .holds f check → check = f.code → f.period ≠ 0#8 → t.control.config = some f) ∧
      (s.store.array.config = .erased → t.control.config = none) ∧
      t.control.link = .start ∧
      t.table = loadTable s.store.array.pairs ∧ t.store.pairMap = s.store.array.pairs.map PairSlots.mapEntry ∧
      t.store.commitQ = [] ∧ t.store.repaired = s.store.array.anyInvalid ∧
      t.store.incarnation = s.store.array.incarnationRead + 1#8 ∧
      t.sync.ownIncarnation = s.store.array.incarnationRead + 1#8 ∧
      t.store.engine = ⟨some (.incarnation s.store.array.stationTarget (s.store.array.incarnationRead + 1#8)), 0, 0, false⟩ ∧
      s.keepsAllBut t [.control, .table, .sync, .store] = true

/-- R21, R137, R139, R151, R152, R153: what START_SEQUENCE reads from the array. A record slot is VALID when its copy's check
code, tag, version and length are good. Of each pair the newest VALID copy is selected, slot A's on equal pairs: the pair map
holds its tag and the conditions as read, and the table the entry made from it where no other pair holds a copy of its tag;
every entry comes from a VALID copy, and the summary is the sum of the terms. The newer station copy is the other's plus 1, or
slot A's; the incarnation is one more, written to the other slot. An INVALID slot sets the repaired indication. -/
def Obligations.StartLoadsTheNewestCopies : Prop :=
  ∀ s : State, s.control.link = .start → s.resetPin = false → s.store.engine.op = none →
    (s.control.cause = .power → s.control.watch = .good) →
    let valid (c : SlotContent) (i : SlotImage) : Prop := c = .copy i ∧ i.check = i.code ∧ 1 ≤ i.tag.toNat ∧
      i.tag.toNat ≤ 0xFFE ∧ 1 ≤ i.pair.version.toNat ∧ i.length.toNat ≤ 32
    let spoilt (c : SlotContent) : Prop := c ≠ .erased ∧ ∀ i, ¬valid c i
    let newest (p : PairSlots) (i : SlotImage) (slot : SlotName) : Prop :=
      (slot = .a ∧ valid p.a i ∧ ∀ j, valid p.b j → j.pair.later i.pair = false) ∨
        (slot = .b ∧ valid p.b i ∧ ∀ j, valid p.a j → i.pair.later j.pair = true)
    let station (c : StationSlot) (v : BitVec 8) : Prop := ∃ check, c = .copy v check ∧ check = stationCode v
    let torn (c : StationSlot) : Prop := c ≠ .erased ∧ ∀ v, ¬station c v
    let starts (t : State) (read : BitVec 8) (target : SlotName) : Prop :=
      t.store.incarnation = read + 1#8 ∧ t.sync.ownIncarnation = read + 1#8 ∧
        t.store.engine.op = some (.incarnation target (read + 1#8))
    ∃ t, exec .startSequence s = .next t ∧
      (∀ (n : Nat) (p : PairSlots), s.store.array.pairs[n]? = some p →
        ∃ m : PairMapEntry, t.store.pairMap[n]? = some m ∧
        (m.condA = .erased ↔ p.a = .erased) ∧ (m.condA = .valid ↔ ∃ i, valid p.a i) ∧
        (m.condB = .erased ↔ p.b = .erased) ∧ (m.condB = .valid ↔ ∃ i, valid p.b i) ∧
        (∀ i slot, newest p i slot → m.tag = some i.tag ∧ m.newest = some slot ∧
          ((∀ (k : Nat) (q : PairSlots) (j : SlotImage), k ≠ n → s.store.array.pairs[k]? = some q →
              valid q.a j ∨ valid q.b j → j.tag ≠ i.tag) →
            t.table.find i.tag = some ⟨i.tag, i.cls, true, if i.cls = .owned then some i.pair.origin else none, i.pair,
              i.value.take i.length.toNat, false, .clean, false⟩)) ∧
        ((∀ i, ¬valid p.a i) → (∀ i, ¬valid p.b i) → m.tag = none ∧ m.newest = none)) ∧
      (∀ e ∈ t.table.entries, ∃ p ∈ s.store.array.pairs, ∃ i slot, newest p i slot ∧ e.tag = i.tag ∧ e.pair = i.pair ∧
        e.storeState = .clean) ∧
      t.table.summary = totalTerms t.table.entries ∧
      (∀ a b, station s.store.array.stationA a → station s.store.array.stationB b →
        if b = a + 1#8 then starts t b .a else starts t a .b) ∧
      (∀ a, station s.store.array.stationA a → (∀ b, ¬station s.store.array.stationB b) → starts t a .b) ∧
      (∀ b, station s.store.array.stationB b → (∀ a, ¬station s.store.array.stationA a) → starts t b .a) ∧
      ((∀ a, ¬station s.store.array.stationA a) → (∀ b, ¬station s.store.array.stationB b) → starts t 0#8 .a) ∧
      (t.store.repaired = true ↔ (∃ p ∈ s.store.array.pairs, spoilt p.a ∨ spoilt p.b) ∨
        torn s.store.array.stationA ∨ torn s.store.array.stationB)

/-- R163, R164, R166, R88, R149: SUPPLY_LOW with the watch GOOD: under FREEZE the station moves to FROZEN with its return
state recorded, a waiting quiesce completed first, the Send Queue kept with an item in flight WAITING again, and the Wanted
Set kept (R101, R134); under RESTART to START with cause POWER; in START the watch alone changes. Under both actions a commit
in progress leaves its record DIRTY, and a WIPE its pair without a newest copy. R165, R69, R111, R113, R119: SUPPLY_GOOD with
the watch LOW: in FROZEN the station moves to the return state. R163, R157: an assertion or a release of PFAIL that has not
lasted 100 microseconds is not taken and restarts the filter (that SUPPLY_LOW and SUPPLY_GOOD show it too is log entry 47), and
the START of RESTART takes the watch from the level itself. That the levels the other stations leave the lines at go on is
the model's choice (log entry 42), and that the configuration of before stands in the START of RESTART is log entry 38's. -/
def Obligations.SupplyWatchFreezesAndRestores : Prop :=
  (∀ s : State, s.control.watch = .good →
     (s.control.quiesceWaiting = false →
       s.control.link = .quiesced ∨ s.control.link = .joining ∨ s.control.link = .active ∨ s.control.link = .faulted →
       (∀ cfg, s.control.config = some cfg → cfg.action = .freeze) →
       ∃ t, exec (.supplyLow true) s = .next t ∧ t.control.link = .frozen ∧ t.control.reason = .supplyLow ∧
         t.control.returnState = (if s.control.link = .quiesced then .quiesced else .joining) ∧
         t.control.watch = .low ∧ t.pfailPin = true ∧
         t.line = { LineIf.initial with othersBck := s.line.othersBck, othersBda := s.line.othersBda,
                                        bckSeen := s.line.othersBck, bdaSeen := s.line.othersBda } ∧
         t.fe = .initial ∧
         (s.fe.tx = .idle ∨ s.fe.tx = .waiting ∨ (s.fe.tx = .voting ∧ s.fe.outcomeFixed = true) →
           t.sendQ = s.sendQ ∧ t.sync.wanted = s.sync.wanted) ∧
         (∀ item rest, s.fe.tx = .contending ∨ s.fe.tx = .sending ∨ s.fe.tx = .lostLate ∨
             (s.fe.tx = .voting ∧ s.fe.outcomeFixed = false) → s.sendQ = item :: rest → item.inFlight = true →
           t.sendQ = { item with inFlight := false } :: rest ∧
           (item.payload ≠ .pull → t.sync.wanted = s.sync.wanted) ∧
           (item.payload = .pull → t.sync.wanted = s.sync.wanted.map fun w =>
             if w.tag ∈ s.sync.pullList then { w with asks := w.asks - 1, nextAsk := s.now } else w)) ∧
         t.sync.beaconTimer = none ∧ t.sync.listen = none ∧
         t.sync.settle = .stopped ∧ t.sync.runActive = s.sync.runActive ∧
         t.store.engine.op = none ∧ t.store.request = none ∧ t.store.commitQ = s.store.commitQ ∧
         (s.store.engine.op = none → t.store.array = s.store.array ∧ t.table = s.table) ∧
         (∀ tag pair target image changed, s.store.engine.op = some (.commit tag pair target image changed) →
           t.store.pairMap = s.store.pairMap ∧ ∀ u : Tag, t.table.find u = (s.table.find u).map fun e =>
             if u = tag then { e with storeState := .dirty } else e) ∧
         (∀ pair all, s.store.engine.op = some (.wipe pair all) → t.table = s.table ∧
           ∀ k : Nat, t.store.pairMap[k]? = (s.store.pairMap[k]?).map fun m =>
             if k = pair then { m with condA := .invalid, condB := .invalid, newest := none } else m) ∧
         t.port.notices = postInto s.port.notices ⟨.link, none, none, none, some .supplyLow⟩ ∧
         s.keepsAllBut t [.control, .pins, .line, .fe, .sendQ, .sync, .store, .table, .port, .reports, .free] = true) ∧
     (s.control.quiesceWaiting = true → s.control.link = .joining ∨ s.control.link = .active ∨ s.control.link = .faulted →
       (∀ cfg, s.control.config = some cfg → cfg.action = .freeze) →
       ∃ t, exec (.supplyLow true) s = .next t ∧ t.control.link = .frozen ∧ t.control.returnState = .quiesced ∧
         t.control.quiesceWaiting = false ∧ t.sendQ = [] ∧ t.sync.wanted = [] ∧
         (s.port.state = .working → t.port.state = .ready ∧ t.port.response = some ⟨.ok, []⟩) ∧
         t.port.notices = postInto (postInto s.port.notices ⟨.link, none, none, none, some .hostRequest⟩)
           ⟨.link, none, none, none, some .supplyLow⟩) ∧
     (∀ cfg, s.control.link = .quiesced ∨ s.control.link = .joining ∨ s.control.link = .active ∨
         s.control.link = .faulted → s.control.config = some cfg → cfg.action = .restart →
       ∃ t, exec (.supplyLow true) s = .next t ∧ t.control.link = .start ∧ t.control.cause = .power ∧ t.control.watch = .low ∧
         t.sendQ = [] ∧ t.store.engine.op = none ∧ t.store.commitQ = [] ∧
         (∀ tag pair target image changed, s.store.engine.op = some (.commit tag pair target image changed) →
           t.store.pairMap = s.store.pairMap ∧ ∀ u : Tag, t.table.find u = (s.table.find u).map fun e =>
             if u = tag then { e with storeState := .dirty } else e) ∧
         (∀ pair all, s.store.engine.op = some (.wipe pair all) → t.table = s.table ∧
           ∀ k : Nat, t.store.pairMap[k]? = (s.store.pairMap[k]?).map fun m =>
             if k = pair then { m with condA := .invalid, condB := .invalid, newest := none } else m) ∧
         t.control.config = some cfg ∧ t.port.state = .notReady ∧ t.port.response = none ∧ t.port.notices = []) ∧
     (s.control.link = .start → ∃ t, exec (.supplyLow true) s = .next t ∧
       t.control = { s.control with watch := .low, filter := 0 } ∧ s.keepsAllBut t [.control, .pins] = true)) ∧
  (∀ s : State, s.control.watch = .low →
     (s.control.link = .frozen → s.control.returnState = .joining → ∃ t, exec (.supplyGood true) s = .next t ∧
       t.control = { s.control with link := .joining, reason := .supplyGood, returnState := .none, watch := .good,
                                    filter := 0 } ∧
       t.sync.beaconTimer = some 0 ∧ t.sync.listen = some 0 ∧ t.sync.joinDigest = .notYet ∧
       (∃ more, t.sendQ = s.sendQ ++ more ∧ ∀ x ∈ more, x = ⟨.digest, false, 0⟩ ∨ x = ⟨.pull, false, 0⟩) ∧
       t.sync.wanted = s.sync.wanted.map (fun w =>
         { w with nextAsk := if w.asks < 3 then s.now else s.now + s.control.ownPeriod }) ∧
       t.port.notices = postInto s.port.notices ⟨.link, none, none, none, some .supplyGood⟩ ∧
       s.keepsAllBut t [.control, .pins, .fe, .sendQ, .sync, .port, .reports] = true) ∧
     (s.control.link = .frozen → s.control.returnState = .quiesced → ∃ t, exec (.supplyGood true) s = .next t ∧
       t.control = { s.control with link := .quiesced, reason := .supplyGood, returnState := .none, watch := .good,
                                    filter := 0 } ∧
       t.port.notices = postInto s.port.notices ⟨.link, none, none, none, some .supplyGood⟩ ∧
       s.keepsAllBut t [.control, .pins, .port] = true) ∧
     (s.control.link = .start → ∃ t, exec (.supplyGood true) s = .next t ∧
       t.control = { s.control with watch := .good, filter := 0 } ∧ t.pfailPin = false ∧
       s.keepsAllBut t [.control, .pins] = true)) ∧
  (∀ (s : State) (asserted : Bool),
     ∃ t, exec (if asserted then .supplyLow false else .supplyGood false) s = .next t ∧ t.pfailPin = asserted ∧
       t.resetPin = s.resetPin ∧ (s.pfailPin = asserted → t = s) ∧
       (s.pfailPin ≠ asserted → t.control = { s.control with filter := 0 } ∧
         s.keepsAllBut t [.control, .pins] = true)) ∧
  (∀ s : State, s.takesRequest = true → ∃ t, exec (.restart []) s = .next t ∧
     t.control.watch = (if s.pfailPin then .low else .good) ∧ t.control.filter = 0 ∧ t.pfailPin = s.pfailPin)

/-! ### Retained Store (Chapter 9) -/

/-- R142, R140, R139: COMMIT_START takes the head of the Commit Queue: its pair found or assigned, the entry COMMITTING, the
image formed, its value padded with 0x00 (Table 68), the target, the slot that is not the newest, under write (R137) and every
other slot as it was; a head with no pair and none free is dropped with COMMIT_FAILED. R146, R147, R148: CONFIG_WRITE_START and
WIPE_START take the pending request. A busy engine, START and FROZEN hold all three back, and a pending request a commit. -/
def Obligations.EngineTakesItsNextOperation : Prop :=
  (∀ (s : State) (tag : Tag) (rest : List Tag) (e : Entry),
     s.control.link = .quiesced ∨ s.control.link = .joining ∨ s.control.link = .active ∨ s.control.link = .faulted →
     s.store.engine.op = none → s.store.request = none → s.store.commitQ = tag :: rest → s.table.find tag = some e →
     (∀ (pair : Nat) (m : PairMapEntry), s.store.pairMap[pair]? = some m →
       (m.tag = some tag ∧ (∀ j, j < pair → ∀ x, s.store.pairMap[j]? = some x → x.tag ≠ some tag)) ∨
         ((∀ x ∈ s.store.pairMap, x.tag ≠ some tag) ∧ m.tag = none ∧
           ∀ j, j < pair → ∀ x, s.store.pairMap[j]? = some x → x.tag ≠ none) →
       ∃ t image, exec .commitStart s = .next t ∧
         image.tag = tag ∧ image.cls = e.cls ∧ image.pair = e.pair ∧ image.owner = e.owner.getD 0#4 ∧
         image.length = BitVec.ofNat 6 e.value.length ∧
         image.value = e.value ++ List.replicate (32 - e.value.length) 0#8 ∧ image.check = image.code ∧
         t.store.engine = ⟨some (.commit tag pair (if m.newest = some .a then .b else .a) image false), 0, 0, false⟩ ∧
         (∀ u : Tag, t.table.find u = if u = tag then some { e with storeState := .committing } else s.table.find u) ∧
         t.store.pairMap[pair]? = some { m with
           tag := some tag
           condA := if m.newest = some .a then m.condA else .invalid
           condB := if m.newest = some .a then .invalid else m.condB } ∧
         (∀ j, j ≠ pair → t.store.pairMap[j]? = s.store.pairMap[j]?) ∧
         (∀ p, s.store.array.pairs[pair]? = some p → t.store.array.pairs[pair]? =
           some (if m.newest = some .a then ⟨p.a, .writing⟩ else ⟨.writing, p.b⟩)) ∧
         (∀ j, j ≠ pair → t.store.array.pairs[j]? = s.store.array.pairs[j]?) ∧
         t.store = { s.store with
           engine := t.store.engine, pairMap := t.store.pairMap
           array := { s.store.array with pairs := t.store.array.pairs } } ∧
         s.keepsAllBut t [.table, .store] = true) ∧
     ((∀ x ∈ s.store.pairMap, x.tag ≠ some tag ∧ x.tag ≠ none) →
       ∃ t, exec .commitStart s = .next t ∧ t.store = { s.store with commitQ := rest } ∧
         (∀ u : Tag, t.table.find u = if u = tag then some { e with storeState := .unstored } else s.table.find u) ∧
         t.port.notices = postInto s.port.notices ⟨.commitFailed, some tag, none, none, some .storeFull⟩ ∧
         s.keepsAllBut t [.table, .store, .port] = true)) ∧
  (∀ s : State,
     s.control.link = .quiesced ∨ s.control.link = .joining ∨ s.control.link = .active ∨ s.control.link = .faulted →
     s.store.engine.op = none →
     (∀ f, s.store.request = some (.configWrite f) → ∃ t, exec .configWriteStart s = .next t ∧
       t.store.request = none ∧ t.store.engine = ⟨some (.configWrite f), 0, 0, false⟩ ∧
       t.store.array.config.valid? = none ∧ t.store.array.pairs = s.store.array.pairs ∧
       t.store.commitQ = s.store.commitQ ∧ s.keepsAllBut t [.store] = true) ∧
     (s.store.request = some .wipe → ∃ t, exec .wipeStart s = .next t ∧
       t.store.request = none ∧ t.store.engine = ⟨some (.wipe 0 true), 0, 0, false⟩ ∧ t.store.commitQ = [] ∧
       t.table.summary = s.table.summary ∧
       t.table.entries = s.table.entries.map (fun e => if e.persistent then { e with storeState := .unstored } else e) ∧
       t.store.array.config = s.store.array.config ∧ t.store.array.stationA = s.store.array.stationA ∧
       t.store.array.stationB = s.store.array.stationB ∧ s.keepsAllBut t [.store, .table] = true)) ∧
  (∀ s : State,
     (s.store.engine.op ≠ none ∨ s.control.link = .start ∨ s.control.link = .frozen →
       exec .commitStart s = .next s ∧ exec .configWriteStart s = .next s ∧ exec .wipeStart s = .next s) ∧
     (s.store.request ≠ none → exec .commitStart s = .next s))

/-- R144, R145, Table 71: WRITE_DONE of a commit with a verify that matches makes the record CLEAN, or DIRTY and queued again
if it changed; the target holds the image and becomes the newest slot. A verify that does not match, or WRITE_LIMIT, at the
first failure begins the rewrite of the same image to the same target; at the second it makes the record FAILED, or DIRTY and
queued again, and posts COMMIT_FAILED. The other slot and the other pairs, of the array and of the pair map, stay as they were.
A report for a stopped write changes nothing. (A write begun in this very moment has
not reached the limit: log entry 5.) -/
def Obligations.CommitsEnd : Prop :=
  (∀ (s : State) (tag : Tag) (pair : Nat) (target : SlotName) (image : SlotImage) (changed good : Bool) (e : Entry)
     (rest : List Tag) (failures timer : Nat) (m : PairMapEntry),
     s.store.engine = ⟨some (.commit tag pair target image changed), failures, timer, false⟩ →
     s.store.commitQ = tag :: rest → s.table.find tag = some e → s.store.pairMap[pair]? = some m →
     (∃ t, exec (.writeDone true true) s = .next t ∧ t.store.engine = ⟨none, 0, 0, false⟩ ∧
       t.store.commitQ = (if changed then rest ++ [tag] else rest) ∧
       (∀ u : Tag, t.table.find u = if u = tag then
         some { e with storeState := if changed then .dirty else .clean } else s.table.find u) ∧
       t.store.pairMap[pair]? = some { m with
         condA := if target = .a then .valid else m.condA
         condB := if target = .b then .valid else m.condB
         newest := some target } ∧
       (∀ p, s.store.array.pairs[pair]? = some p →
         t.store.array.pairs[pair]? = some (if target = .a then ⟨.copy image, p.b⟩ else ⟨p.a, .copy image⟩)) ∧
       (∀ j, j ≠ pair → t.store.array.pairs[j]? = s.store.array.pairs[j]? ∧ t.store.pairMap[j]? = s.store.pairMap[j]?) ∧
       t.store = { s.store with
         engine := t.store.engine, commitQ := t.store.commitQ, pairMap := t.store.pairMap
         array := { s.store.array with pairs := t.store.array.pairs } } ∧
       s.keepsAllBut t [.table, .store] = true) ∧
     exec (.writeDone false good) s = .next s) ∧
  (∀ (s : State) (tag : Tag) (pair : Nat) (target : SlotName) (image : SlotImage) (changed : Bool) (e : Entry)
     (rest : List Tag) (failures timer : Nat),
     s.store.engine = ⟨some (.commit tag pair target image changed), failures, timer, false⟩ →
     s.store.commitQ = tag :: rest → s.table.find tag = some e →
     (timer = 0 → exec .writeLimit s = .next s) ∧
     ∀ c, (c = .writeLimit ∧ 0 < timer) ∨ c = .writeDone true false → ∃ t, exec c s = .next t ∧
       (∀ p, s.store.array.pairs[pair]? = some p → ∃ left, (∀ i, left ≠ .copy i) ∧
         t.store.array.pairs[pair]? = some (if target = .a then ⟨left, p.b⟩ else ⟨p.a, left⟩)) ∧
       (∀ j, j ≠ pair → t.store.array.pairs[j]? = s.store.array.pairs[j]?) ∧
       t.store = { s.store with
         engine := t.store.engine, commitQ := t.store.commitQ
         array := { s.store.array with pairs := t.store.array.pairs } } ∧
       (failures = 0 → t.store.engine = ⟨some (.commit tag pair target image changed), 1, 0, false⟩ ∧
         t.store.commitQ = s.store.commitQ ∧ t.store.pairMap = s.store.pairMap ∧
         s.keepsAllBut t [.store, .free] = true) ∧
       (failures = 1 → t.store.engine = ⟨none, 0, 0, false⟩ ∧ t.store.pairMap = s.store.pairMap ∧
         t.store.commitQ = (if changed then rest ++ [tag] else rest) ∧
         (∀ u : Tag, t.table.find u = if u = tag then
           some { e with storeState := if changed then .dirty else .failed } else s.table.find u) ∧
         t.port.notices = postInto s.port.notices ⟨.commitFailed, some tag, none, none, some .verify⟩ ∧
         s.keepsAllBut t [.store, .table, .port, .free] = true))

/-- R158 step 5, R181, R159: the end of the incarnation write leaves START: to JOINING with a configuration in force, else to
QUIESCED, with the LINK notice, the port IDLE and the supply watch GOOD with its filter restarted (R163), and after a second
failure with COMMIT_FAILED before it (R152); the other operations of the port end with their result (R147, R148). A first
failure of each begins the write or the erase again. A pair whose second erase fails keeps its tag with INVALID conditions, and
the WIPE goes on to end STORE_FAILED. (An erase that reaches the write limit counts as failed without being read back, which is
the model's choice: log entry 54.) -/
def Obligations.WriteDoneEndsTheOtherOperations : Prop :=
  ∀ (s : State) (failures timer : Nat),
    (∀ slot v, s.store.engine = ⟨some (.incarnation slot v), failures, timer, false⟩ → s.control.link = .start →
      ∃ t, exec (.writeDone true true) s = .next t ∧ t.port.state = .idle ∧
        t.control.link = (if s.control.config.isSome then .joining else .quiesced) ∧
        t.control.reason = (if s.control.config.isSome then .started else .configInvalid) ∧ t.control.watch = .good ∧
        t.control.filter = 0 ∧
        t.port.notices = postInto s.port.notices
          ⟨.link, none, none, none, some (if s.control.config.isSome then .started else .configInvalid)⟩ ∧
        t.store.engine.op = none ∧
        (slot = .a → t.store.array.stationA.value? = some v) ∧ (slot = .b → t.store.array.stationB.value? = some v)) ∧
    (∀ f, s.store.engine = ⟨some (.configWrite f), failures, timer, false⟩ → s.port.state = .working → f.period ≠ 0#8 →
      ∃ t, exec (.writeDone true true) s = .next t ∧ t.port.state = .ready ∧ t.port.response = some ⟨.ok, []⟩ ∧
        t.store.array.config.valid? = some f ∧ t.store.engine.op = none ∧ t.control.config = s.control.config ∧
        s.keepsAllBut t [.store, .port] = true) ∧
    (∀ n all m, s.store.engine = ⟨some (.wipe n all), failures, timer, false⟩ → n < 47 →
      s.store.pairMap[n]? = some m → ∃ t, exec (.writeDone true true) s = .next t ∧
        t.store.engine = ⟨some (.wipe (n + 1) all), 0, 0, false⟩ ∧
        t.store.pairMap[n]? = some ⟨none, .erased, .erased, none⟩ ∧ s.keepsAllBut t [.store] = true) ∧
    (∀ all, s.store.engine = ⟨some (.wipe 47 all), failures, timer, false⟩ → s.port.state = .working →
      ∃ t, exec (.writeDone true true) s = .next t ∧ t.store.engine.op = none ∧ t.port.state = .ready ∧
        t.port.response = some ⟨if all then .ok else .storeFailed, []⟩ ∧ s.keepsAllBut t [.store, .port] = true) ∧
    (∀ op, s.store.engine = ⟨some op, 0, timer, false⟩ →
      (∃ n all, op = .wipe n all) ∨ (∃ f, op = .configWrite f) ∨ (∃ slot v, op = .incarnation slot v) →
      ∀ c, (c = .writeLimit ∧ 0 < timer) ∨ c = .writeDone true false → ∃ t, exec c s = .next t ∧
        t.store.engine = ⟨some op, 1, 0, false⟩ ∧ t.store.pairMap = s.store.pairMap ∧
        t.store.commitQ = s.store.commitQ ∧ t.store.request = s.store.request ∧ s.keepsAllBut t [.store, .free] = true) ∧
    (∀ n all m, s.store.engine = ⟨some (.wipe n all), 1, timer, false⟩ → s.store.pairMap[n]? = some m →
      ∀ c, (c = .writeLimit ∧ 0 < timer) ∨ c = .writeDone true false → ∃ t, exec c s = .next t ∧
        t.store.pairMap[n]? = some { m with condA := .invalid, condB := .invalid, newest := none } ∧
        (∀ j, j ≠ n → t.store.pairMap[j]? = s.store.pairMap[j]?) ∧
        (n < 47 → t.store.engine = ⟨some (.wipe (n + 1) false), 0, 0, false⟩ ∧ s.keepsAllBut t [.store, .free] = true) ∧
        (n = 47 → s.port.state = .working → t.store.engine.op = none ∧ t.port.state = .ready ∧
          t.port.response = some ⟨.storeFailed, []⟩ ∧ s.keepsAllBut t [.store, .port, .free] = true)) ∧
    (∀ f, s.store.engine = ⟨some (.configWrite f), 1, timer, false⟩ → s.port.state = .working →
      ∀ c, (c = .writeLimit ∧ 0 < timer) ∨ c = .writeDone true false → ∃ t, exec c s = .next t ∧ t.store.engine.op = none ∧
        t.port.state = .ready ∧ t.port.response = some ⟨.storeFailed, []⟩ ∧ t.store.array.config.valid? = none ∧
        s.keepsAllBut t [.store, .port, .free] = true) ∧
    (∀ slot v, s.store.engine = ⟨some (.incarnation slot v), 1, timer, false⟩ → s.control.link = .start →
      ∀ c, (c = .writeLimit ∧ 0 < timer) ∨ c = .writeDone true false → ∃ t, exec c s = .next t ∧ t.store.engine.op = none ∧
        t.control.link = (if s.control.config.isSome then .joining else .quiesced) ∧ t.port.state = .idle ∧
        t.port.notices = postInto (postInto s.port.notices ⟨.commitFailed, none, none, none, some .verify⟩)
          ⟨.link, none, none, none, some (if s.control.config.isSome then .started else .configInvalid)⟩)
end

