-- ==== Sys2Proof/Laws/State.lean ====
section
/-! SUPPORT. What one block's update does to every field of the state, true by unfolding; and the updates of two blocks or
of one block twice. -/

namespace Sys2Proof.Machine

/-! ### `setControl` -/

@[simp] theorem State.setControl_pending (s : State) (x : Control) : (s.setControl x).pending = s.pending := rfl
@[simp] theorem State.setControl_now (s : State) (x : Control) : (s.setControl x).now = s.now := rfl
@[simp] theorem State.setControl_free (s : State) (x : Control) : (s.setControl x).free = s.free := rfl
@[simp] theorem State.setControl_resetPin (s : State) (x : Control) : (s.setControl x).resetPin = s.resetPin := rfl
@[simp] theorem State.setControl_pfailPin (s : State) (x : Control) : (s.setControl x).pfailPin = s.pfailPin := rfl
@[simp] theorem State.setControl_control (s : State) (x : Control) : (s.setControl x).control = x := rfl
@[simp] theorem State.setControl_line (s : State) (x : Control) : (s.setControl x).line = s.line := rfl
@[simp] theorem State.setControl_fe (s : State) (x : Control) : (s.setControl x).fe = s.fe := rfl
@[simp] theorem State.setControl_table (s : State) (x : Control) : (s.setControl x).table = s.table := rfl
@[simp] theorem State.setControl_sendQ (s : State) (x : Control) : (s.setControl x).sendQ = s.sendQ := rfl
@[simp] theorem State.setControl_sync (s : State) (x : Control) : (s.setControl x).sync = s.sync := rfl
@[simp] theorem State.setControl_store (s : State) (x : Control) : (s.setControl x).store = s.store := rfl
@[simp] theorem State.setControl_port (s : State) (x : Control) : (s.setControl x).port = s.port := rfl
@[simp] theorem State.setControl_reports (s : State) (x : Control) : (s.setControl x).reports = s.reports := rfl
@[simp] theorem State.setControl_setControl (s : State) (x y : Control) : (s.setControl x).setControl y = s.setControl y := rfl

/-! ### `setLine` -/

@[simp] theorem State.setLine_pending (s : State) (x : LineIf) : (s.setLine x).pending = s.pending := rfl
@[simp] theorem State.setLine_now (s : State) (x : LineIf) : (s.setLine x).now = s.now := rfl
@[simp] theorem State.setLine_free (s : State) (x : LineIf) : (s.setLine x).free = s.free := rfl
@[simp] theorem State.setLine_resetPin (s : State) (x : LineIf) : (s.setLine x).resetPin = s.resetPin := rfl
@[simp] theorem State.setLine_pfailPin (s : State) (x : LineIf) : (s.setLine x).pfailPin = s.pfailPin := rfl
@[simp] theorem State.setLine_control (s : State) (x : LineIf) : (s.setLine x).control = s.control := rfl
@[simp] theorem State.setLine_line (s : State) (x : LineIf) : (s.setLine x).line = x := rfl
@[simp] theorem State.setLine_fe (s : State) (x : LineIf) : (s.setLine x).fe = s.fe := rfl
@[simp] theorem State.setLine_table (s : State) (x : LineIf) : (s.setLine x).table = s.table := rfl
@[simp] theorem State.setLine_sendQ (s : State) (x : LineIf) : (s.setLine x).sendQ = s.sendQ := rfl
@[simp] theorem State.setLine_sync (s : State) (x : LineIf) : (s.setLine x).sync = s.sync := rfl
@[simp] theorem State.setLine_store (s : State) (x : LineIf) : (s.setLine x).store = s.store := rfl
@[simp] theorem State.setLine_port (s : State) (x : LineIf) : (s.setLine x).port = s.port := rfl
@[simp] theorem State.setLine_reports (s : State) (x : LineIf) : (s.setLine x).reports = s.reports := rfl
@[simp] theorem State.setLine_setLine (s : State) (x y : LineIf) : (s.setLine x).setLine y = s.setLine y := rfl

/-! ### `setFe` -/

@[simp] theorem State.setFe_pending (s : State) (x : FrameEngine) : (s.setFe x).pending = s.pending := rfl
@[simp] theorem State.setFe_now (s : State) (x : FrameEngine) : (s.setFe x).now = s.now := rfl
@[simp] theorem State.setFe_free (s : State) (x : FrameEngine) : (s.setFe x).free = s.free := rfl
@[simp] theorem State.setFe_resetPin (s : State) (x : FrameEngine) : (s.setFe x).resetPin = s.resetPin := rfl
@[simp] theorem State.setFe_pfailPin (s : State) (x : FrameEngine) : (s.setFe x).pfailPin = s.pfailPin := rfl
@[simp] theorem State.setFe_control (s : State) (x : FrameEngine) : (s.setFe x).control = s.control := rfl
@[simp] theorem State.setFe_line (s : State) (x : FrameEngine) : (s.setFe x).line = s.line := rfl
@[simp] theorem State.setFe_fe (s : State) (x : FrameEngine) : (s.setFe x).fe = x := rfl
@[simp] theorem State.setFe_table (s : State) (x : FrameEngine) : (s.setFe x).table = s.table := rfl
@[simp] theorem State.setFe_sendQ (s : State) (x : FrameEngine) : (s.setFe x).sendQ = s.sendQ := rfl
@[simp] theorem State.setFe_sync (s : State) (x : FrameEngine) : (s.setFe x).sync = s.sync := rfl
@[simp] theorem State.setFe_store (s : State) (x : FrameEngine) : (s.setFe x).store = s.store := rfl
@[simp] theorem State.setFe_port (s : State) (x : FrameEngine) : (s.setFe x).port = s.port := rfl
@[simp] theorem State.setFe_reports (s : State) (x : FrameEngine) : (s.setFe x).reports = s.reports := rfl
@[simp] theorem State.setFe_setFe (s : State) (x y : FrameEngine) : (s.setFe x).setFe y = s.setFe y := rfl

/-! ### `setTable` -/

@[simp] theorem State.setTable_pending (s : State) (x : RecordTable) : (s.setTable x).pending = s.pending := rfl
@[simp] theorem State.setTable_now (s : State) (x : RecordTable) : (s.setTable x).now = s.now := rfl
@[simp] theorem State.setTable_free (s : State) (x : RecordTable) : (s.setTable x).free = s.free := rfl
@[simp] theorem State.setTable_resetPin (s : State) (x : RecordTable) : (s.setTable x).resetPin = s.resetPin := rfl
@[simp] theorem State.setTable_pfailPin (s : State) (x : RecordTable) : (s.setTable x).pfailPin = s.pfailPin := rfl
@[simp] theorem State.setTable_control (s : State) (x : RecordTable) : (s.setTable x).control = s.control := rfl
@[simp] theorem State.setTable_line (s : State) (x : RecordTable) : (s.setTable x).line = s.line := rfl
@[simp] theorem State.setTable_fe (s : State) (x : RecordTable) : (s.setTable x).fe = s.fe := rfl
@[simp] theorem State.setTable_table (s : State) (x : RecordTable) : (s.setTable x).table = x := rfl
@[simp] theorem State.setTable_sendQ (s : State) (x : RecordTable) : (s.setTable x).sendQ = s.sendQ := rfl
@[simp] theorem State.setTable_sync (s : State) (x : RecordTable) : (s.setTable x).sync = s.sync := rfl
@[simp] theorem State.setTable_store (s : State) (x : RecordTable) : (s.setTable x).store = s.store := rfl
@[simp] theorem State.setTable_port (s : State) (x : RecordTable) : (s.setTable x).port = s.port := rfl
@[simp] theorem State.setTable_reports (s : State) (x : RecordTable) : (s.setTable x).reports = s.reports := rfl
@[simp] theorem State.setTable_setTable (s : State) (x y : RecordTable) : (s.setTable x).setTable y = s.setTable y := rfl

/-! ### `setSendQ` -/

@[simp] theorem State.setSendQ_pending (s : State) (x : List SendItem) : (s.setSendQ x).pending = s.pending := rfl
@[simp] theorem State.setSendQ_now (s : State) (x : List SendItem) : (s.setSendQ x).now = s.now := rfl
@[simp] theorem State.setSendQ_free (s : State) (x : List SendItem) : (s.setSendQ x).free = s.free := rfl
@[simp] theorem State.setSendQ_resetPin (s : State) (x : List SendItem) : (s.setSendQ x).resetPin = s.resetPin := rfl
@[simp] theorem State.setSendQ_pfailPin (s : State) (x : List SendItem) : (s.setSendQ x).pfailPin = s.pfailPin := rfl
@[simp] theorem State.setSendQ_control (s : State) (x : List SendItem) : (s.setSendQ x).control = s.control := rfl
@[simp] theorem State.setSendQ_line (s : State) (x : List SendItem) : (s.setSendQ x).line = s.line := rfl
@[simp] theorem State.setSendQ_fe (s : State) (x : List SendItem) : (s.setSendQ x).fe = s.fe := rfl
@[simp] theorem State.setSendQ_table (s : State) (x : List SendItem) : (s.setSendQ x).table = s.table := rfl
@[simp] theorem State.setSendQ_sendQ (s : State) (x : List SendItem) : (s.setSendQ x).sendQ = x := rfl
@[simp] theorem State.setSendQ_sync (s : State) (x : List SendItem) : (s.setSendQ x).sync = s.sync := rfl
@[simp] theorem State.setSendQ_store (s : State) (x : List SendItem) : (s.setSendQ x).store = s.store := rfl
@[simp] theorem State.setSendQ_port (s : State) (x : List SendItem) : (s.setSendQ x).port = s.port := rfl
@[simp] theorem State.setSendQ_reports (s : State) (x : List SendItem) : (s.setSendQ x).reports = s.reports := rfl
@[simp] theorem State.setSendQ_setSendQ (s : State) (x y : List SendItem) : (s.setSendQ x).setSendQ y = s.setSendQ y := rfl

/-! ### `setSync` -/

@[simp] theorem State.setSync_pending (s : State) (x : SyncUnit) : (s.setSync x).pending = s.pending := rfl
@[simp] theorem State.setSync_now (s : State) (x : SyncUnit) : (s.setSync x).now = s.now := rfl
@[simp] theorem State.setSync_free (s : State) (x : SyncUnit) : (s.setSync x).free = s.free := rfl
@[simp] theorem State.setSync_resetPin (s : State) (x : SyncUnit) : (s.setSync x).resetPin = s.resetPin := rfl
@[simp] theorem State.setSync_pfailPin (s : State) (x : SyncUnit) : (s.setSync x).pfailPin = s.pfailPin := rfl
@[simp] theorem State.setSync_control (s : State) (x : SyncUnit) : (s.setSync x).control = s.control := rfl
@[simp] theorem State.setSync_line (s : State) (x : SyncUnit) : (s.setSync x).line = s.line := rfl
@[simp] theorem State.setSync_fe (s : State) (x : SyncUnit) : (s.setSync x).fe = s.fe := rfl
@[simp] theorem State.setSync_table (s : State) (x : SyncUnit) : (s.setSync x).table = s.table := rfl
@[simp] theorem State.setSync_sendQ (s : State) (x : SyncUnit) : (s.setSync x).sendQ = s.sendQ := rfl
@[simp] theorem State.setSync_sync (s : State) (x : SyncUnit) : (s.setSync x).sync = x := rfl
@[simp] theorem State.setSync_store (s : State) (x : SyncUnit) : (s.setSync x).store = s.store := rfl
@[simp] theorem State.setSync_port (s : State) (x : SyncUnit) : (s.setSync x).port = s.port := rfl
@[simp] theorem State.setSync_reports (s : State) (x : SyncUnit) : (s.setSync x).reports = s.reports := rfl
@[simp] theorem State.setSync_setSync (s : State) (x y : SyncUnit) : (s.setSync x).setSync y = s.setSync y := rfl

/-! ### `setStore` -/

@[simp] theorem State.setStore_pending (s : State) (x : RetainedStore) : (s.setStore x).pending = s.pending := rfl
@[simp] theorem State.setStore_now (s : State) (x : RetainedStore) : (s.setStore x).now = s.now := rfl
@[simp] theorem State.setStore_free (s : State) (x : RetainedStore) : (s.setStore x).free = s.free := rfl
@[simp] theorem State.setStore_resetPin (s : State) (x : RetainedStore) : (s.setStore x).resetPin = s.resetPin := rfl
@[simp] theorem State.setStore_pfailPin (s : State) (x : RetainedStore) : (s.setStore x).pfailPin = s.pfailPin := rfl
@[simp] theorem State.setStore_control (s : State) (x : RetainedStore) : (s.setStore x).control = s.control := rfl
@[simp] theorem State.setStore_line (s : State) (x : RetainedStore) : (s.setStore x).line = s.line := rfl
@[simp] theorem State.setStore_fe (s : State) (x : RetainedStore) : (s.setStore x).fe = s.fe := rfl
@[simp] theorem State.setStore_table (s : State) (x : RetainedStore) : (s.setStore x).table = s.table := rfl
@[simp] theorem State.setStore_sendQ (s : State) (x : RetainedStore) : (s.setStore x).sendQ = s.sendQ := rfl
@[simp] theorem State.setStore_sync (s : State) (x : RetainedStore) : (s.setStore x).sync = s.sync := rfl
@[simp] theorem State.setStore_store (s : State) (x : RetainedStore) : (s.setStore x).store = x := rfl
@[simp] theorem State.setStore_port (s : State) (x : RetainedStore) : (s.setStore x).port = s.port := rfl
@[simp] theorem State.setStore_reports (s : State) (x : RetainedStore) : (s.setStore x).reports = s.reports := rfl
@[simp] theorem State.setStore_setStore (s : State) (x y : RetainedStore) : (s.setStore x).setStore y = s.setStore y := rfl

/-! ### `setPort` -/

@[simp] theorem State.setPort_pending (s : State) (x : HostPort) : (s.setPort x).pending = s.pending := rfl
@[simp] theorem State.setPort_now (s : State) (x : HostPort) : (s.setPort x).now = s.now := rfl
@[simp] theorem State.setPort_free (s : State) (x : HostPort) : (s.setPort x).free = s.free := rfl
@[simp] theorem State.setPort_resetPin (s : State) (x : HostPort) : (s.setPort x).resetPin = s.resetPin := rfl
@[simp] theorem State.setPort_pfailPin (s : State) (x : HostPort) : (s.setPort x).pfailPin = s.pfailPin := rfl
@[simp] theorem State.setPort_control (s : State) (x : HostPort) : (s.setPort x).control = s.control := rfl
@[simp] theorem State.setPort_line (s : State) (x : HostPort) : (s.setPort x).line = s.line := rfl
@[simp] theorem State.setPort_fe (s : State) (x : HostPort) : (s.setPort x).fe = s.fe := rfl
@[simp] theorem State.setPort_table (s : State) (x : HostPort) : (s.setPort x).table = s.table := rfl
@[simp] theorem State.setPort_sendQ (s : State) (x : HostPort) : (s.setPort x).sendQ = s.sendQ := rfl
@[simp] theorem State.setPort_sync (s : State) (x : HostPort) : (s.setPort x).sync = s.sync := rfl
@[simp] theorem State.setPort_store (s : State) (x : HostPort) : (s.setPort x).store = s.store := rfl
@[simp] theorem State.setPort_port (s : State) (x : HostPort) : (s.setPort x).port = x := rfl
@[simp] theorem State.setPort_reports (s : State) (x : HostPort) : (s.setPort x).reports = s.reports := rfl
@[simp] theorem State.setPort_setPort (s : State) (x y : HostPort) : (s.setPort x).setPort y = s.setPort y := rfl

/-! ### `setReports` -/

@[simp] theorem State.setReports_pending (s : State) (x : Reports) : (s.setReports x).pending = s.pending := rfl
@[simp] theorem State.setReports_now (s : State) (x : Reports) : (s.setReports x).now = s.now := rfl
@[simp] theorem State.setReports_free (s : State) (x : Reports) : (s.setReports x).free = s.free := rfl
@[simp] theorem State.setReports_resetPin (s : State) (x : Reports) : (s.setReports x).resetPin = s.resetPin := rfl
@[simp] theorem State.setReports_pfailPin (s : State) (x : Reports) : (s.setReports x).pfailPin = s.pfailPin := rfl
@[simp] theorem State.setReports_control (s : State) (x : Reports) : (s.setReports x).control = s.control := rfl
@[simp] theorem State.setReports_line (s : State) (x : Reports) : (s.setReports x).line = s.line := rfl
@[simp] theorem State.setReports_fe (s : State) (x : Reports) : (s.setReports x).fe = s.fe := rfl
@[simp] theorem State.setReports_table (s : State) (x : Reports) : (s.setReports x).table = s.table := rfl
@[simp] theorem State.setReports_sendQ (s : State) (x : Reports) : (s.setReports x).sendQ = s.sendQ := rfl
@[simp] theorem State.setReports_sync (s : State) (x : Reports) : (s.setReports x).sync = s.sync := rfl
@[simp] theorem State.setReports_store (s : State) (x : Reports) : (s.setReports x).store = s.store := rfl
@[simp] theorem State.setReports_port (s : State) (x : Reports) : (s.setReports x).port = s.port := rfl
@[simp] theorem State.setReports_reports (s : State) (x : Reports) : (s.setReports x).reports = x := rfl
@[simp] theorem State.setReports_setReports (s : State) (x y : Reports) : (s.setReports x).setReports y = s.setReports y := rfl

/-! ### `useFree` -/

@[simp] theorem State.useFree_pending (s : State) (n : Nat) : (s.useFree n).pending = s.pending := rfl
@[simp] theorem State.useFree_now (s : State) (n : Nat) : (s.useFree n).now = s.now := rfl
@[simp] theorem State.useFree_free (s : State) (n : Nat) : (s.useFree n).free = s.free + n := rfl
@[simp] theorem State.useFree_resetPin (s : State) (n : Nat) : (s.useFree n).resetPin = s.resetPin := rfl
@[simp] theorem State.useFree_pfailPin (s : State) (n : Nat) : (s.useFree n).pfailPin = s.pfailPin := rfl
@[simp] theorem State.useFree_control (s : State) (n : Nat) : (s.useFree n).control = s.control := rfl
@[simp] theorem State.useFree_line (s : State) (n : Nat) : (s.useFree n).line = s.line := rfl
@[simp] theorem State.useFree_fe (s : State) (n : Nat) : (s.useFree n).fe = s.fe := rfl
@[simp] theorem State.useFree_table (s : State) (n : Nat) : (s.useFree n).table = s.table := rfl
@[simp] theorem State.useFree_sendQ (s : State) (n : Nat) : (s.useFree n).sendQ = s.sendQ := rfl
@[simp] theorem State.useFree_sync (s : State) (n : Nat) : (s.useFree n).sync = s.sync := rfl
@[simp] theorem State.useFree_store (s : State) (n : Nat) : (s.useFree n).store = s.store := rfl
@[simp] theorem State.useFree_port (s : State) (n : Nat) : (s.useFree n).port = s.port := rfl
@[simp] theorem State.useFree_reports (s : State) (n : Nat) : (s.useFree n).reports = s.reports := rfl

/-! ### Parts of blocks -/

@[simp] theorem HostPort.setNotices_notices (p : HostPort) (q : List Notice) : (p.setNotices q).notices = q := rfl
@[simp] theorem HostPort.setNotices_attn (p : HostPort) (q : List Notice) : (p.setNotices q).attn = !q.isEmpty := rfl
@[simp] theorem HostPort.setNotices_state (p : HostPort) (q : List Notice) : (p.setNotices q).state = p.state := rfl
@[simp] theorem HostPort.setNotices_overrun (p : HostPort) (q : List Notice) : (p.setNotices q).overrun = p.overrun := rfl
@[simp] theorem HostPort.setNotices_request (p : HostPort) (q : List Notice) : (p.setNotices q).request = p.request := rfl
@[simp] theorem HostPort.setNotices_requestCount (p : HostPort) (q : List Notice) :
    (p.setNotices q).requestCount = p.requestCount := rfl
@[simp] theorem HostPort.setNotices_response (p : HostPort) (q : List Notice) : (p.setNotices q).response = p.response := rfl
@[simp] theorem HostPort.setNotices_sel (p : HostPort) (q : List Notice) : (p.setNotices q).sel = p.sel := rfl
@[simp] theorem HostPort.setNotices_statusByte (p : HostPort) (q : List Notice) :
    (p.setNotices q).statusByte = p.statusByte := rfl
@[simp] theorem HostPort.setNotices_shiftedOut (p : HostPort) (q : List Notice) :
    (p.setNotices q).shiftedOut = p.shiftedOut := rfl

/-! ### The lines: what reading them, driving them and letting them go leaves as it was -/

@[simp] theorem LineIf.read_cond (l : LineIf) : l.read.cond = l.cond := rfl
@[simp] theorem LineIf.read_frameOpen (l : LineIf) : l.read.frameOpen = l.frameOpen := rfl
@[simp] theorem LineIf.read_seenIdle (l : LineIf) : l.read.seenIdle = l.seenIdle := rfl
@[simp] theorem LineIf.read_yieldOwed (l : LineIf) : l.read.yieldOwed = l.yieldOwed := rfl
@[simp] theorem LineIf.read_phase (l : LineIf) : l.read.phase = l.phase := rfl
@[simp] theorem LineIf.read_halfTimer (l : LineIf) : l.read.halfTimer = l.halfTimer := rfl
@[simp] theorem LineIf.read_othersBck (l : LineIf) : l.read.othersBck = l.othersBck := rfl
@[simp] theorem LineIf.read_othersBda (l : LineIf) : l.read.othersBda = l.othersBda := rfl
@[simp] theorem LineIf.read_bckSeen (l : LineIf) : l.read.bckSeen = l.bckSeen := rfl
@[simp] theorem LineIf.read_bdaSeen (l : LineIf) : l.read.bdaSeen = l.bdaSeen := rfl
@[simp] theorem LineIf.read_driveBck (l : LineIf) : l.read.driveBck = l.driveBck := rfl
@[simp] theorem LineIf.read_driveBda (l : LineIf) : l.read.driveBda = l.driveBda := rfl
@[simp] theorem LineIf.read_placing (l : LineIf) : l.read.placing = l.placing := rfl
@[simp] theorem LineIf.read_hold (l : LineIf) : l.read.hold = l.hold := rfl
@[simp] theorem LineIf.read_right (l : LineIf) : l.read.right = l.right := rfl
@[simp] theorem LineIf.read_bck (l : LineIf) : l.read.bck = l.bck := rfl
@[simp] theorem LineIf.read_bda (l : LineIf) : l.read.bda = l.bda := rfl

@[simp] theorem LineIf.setDriveBck_cond (l : LineIf) (b : Bool) : (l.setDriveBck b).cond = l.cond := rfl
@[simp] theorem LineIf.setDriveBck_frameOpen (l : LineIf) (b : Bool) : (l.setDriveBck b).frameOpen = l.frameOpen := rfl
@[simp] theorem LineIf.setDriveBck_seenIdle (l : LineIf) (b : Bool) : (l.setDriveBck b).seenIdle = l.seenIdle := rfl
@[simp] theorem LineIf.setDriveBck_yieldOwed (l : LineIf) (b : Bool) : (l.setDriveBck b).yieldOwed = l.yieldOwed := rfl
@[simp] theorem LineIf.setDriveBck_phase (l : LineIf) (b : Bool) : (l.setDriveBck b).phase = l.phase := rfl
@[simp] theorem LineIf.setDriveBck_halfTimer (l : LineIf) (b : Bool) : (l.setDriveBck b).halfTimer = l.halfTimer := rfl
@[simp] theorem LineIf.setDriveBck_othersBck (l : LineIf) (b : Bool) : (l.setDriveBck b).othersBck = l.othersBck := rfl
@[simp] theorem LineIf.setDriveBck_othersBda (l : LineIf) (b : Bool) : (l.setDriveBck b).othersBda = l.othersBda := rfl
@[simp] theorem LineIf.setDriveBck_bckSeen (l : LineIf) (b : Bool) : (l.setDriveBck b).bckSeen = l.bckSeen := rfl
@[simp] theorem LineIf.setDriveBck_bdaSeen (l : LineIf) (b : Bool) : (l.setDriveBck b).bdaSeen = l.bdaSeen := rfl
@[simp] theorem LineIf.setDriveBck_driveBck (l : LineIf) (b : Bool) : (l.setDriveBck b).driveBck = b := rfl
@[simp] theorem LineIf.setDriveBck_driveBda (l : LineIf) (b : Bool) : (l.setDriveBck b).driveBda = l.driveBda := rfl
@[simp] theorem LineIf.setDriveBck_placing (l : LineIf) (b : Bool) : (l.setDriveBck b).placing = l.placing := rfl
@[simp] theorem LineIf.setDriveBck_hold (l : LineIf) (b : Bool) : (l.setDriveBck b).hold = l.hold := rfl
@[simp] theorem LineIf.setDriveBck_right (l : LineIf) (b : Bool) : (l.setDriveBck b).right = l.right := rfl
@[simp] theorem LineIf.setDriveBck_bck (l : LineIf) (b : Bool) : (l.setDriveBck b).bck = (l.othersBck && !b) := rfl
@[simp] theorem LineIf.setDriveBck_bda (l : LineIf) (b : Bool) : (l.setDriveBck b).bda = l.bda := rfl

@[simp] theorem LineIf.place_cond (l : LineIf) (b : Bool) : (l.place b).cond = l.cond := rfl
@[simp] theorem LineIf.place_frameOpen (l : LineIf) (b : Bool) : (l.place b).frameOpen = l.frameOpen := rfl
@[simp] theorem LineIf.place_seenIdle (l : LineIf) (b : Bool) : (l.place b).seenIdle = l.seenIdle := rfl
@[simp] theorem LineIf.place_yieldOwed (l : LineIf) (b : Bool) : (l.place b).yieldOwed = l.yieldOwed := rfl
@[simp] theorem LineIf.place_phase (l : LineIf) (b : Bool) : (l.place b).phase = l.phase := rfl
@[simp] theorem LineIf.place_halfTimer (l : LineIf) (b : Bool) : (l.place b).halfTimer = l.halfTimer := rfl
@[simp] theorem LineIf.place_othersBck (l : LineIf) (b : Bool) : (l.place b).othersBck = l.othersBck := rfl
@[simp] theorem LineIf.place_othersBda (l : LineIf) (b : Bool) : (l.place b).othersBda = l.othersBda := rfl
@[simp] theorem LineIf.place_bckSeen (l : LineIf) (b : Bool) : (l.place b).bckSeen = l.bckSeen := rfl
@[simp] theorem LineIf.place_bdaSeen (l : LineIf) (b : Bool) : (l.place b).bdaSeen = l.bdaSeen := rfl
@[simp] theorem LineIf.place_driveBck (l : LineIf) (b : Bool) : (l.place b).driveBck = l.driveBck := rfl
@[simp] theorem LineIf.place_driveBda (l : LineIf) (b : Bool) : (l.place b).driveBda = (!b) := rfl
@[simp] theorem LineIf.place_placing (l : LineIf) (b : Bool) : (l.place b).placing = none := rfl
@[simp] theorem LineIf.place_hold (l : LineIf) (b : Bool) : (l.place b).hold = l.hold := rfl
@[simp] theorem LineIf.place_right (l : LineIf) (b : Bool) : (l.place b).right = l.right := rfl
@[simp] theorem LineIf.place_bck (l : LineIf) (b : Bool) : (l.place b).bck = l.bck := rfl
@[simp] theorem LineIf.place_bda (l : LineIf) (b : Bool) : (l.place b).bda = (l.othersBda && !!b) := rfl

@[simp] theorem LineIf.release_cond (l : LineIf) : l.release.cond = l.cond := rfl
@[simp] theorem LineIf.release_frameOpen (l : LineIf) : l.release.frameOpen = l.frameOpen := rfl
@[simp] theorem LineIf.release_seenIdle (l : LineIf) : l.release.seenIdle = l.seenIdle := rfl
@[simp] theorem LineIf.release_yieldOwed (l : LineIf) : l.release.yieldOwed = l.yieldOwed := rfl
@[simp] theorem LineIf.release_phase (l : LineIf) : l.release.phase = .none := rfl
@[simp] theorem LineIf.release_halfTimer (l : LineIf) : l.release.halfTimer = none := rfl
@[simp] theorem LineIf.release_othersBck (l : LineIf) : l.release.othersBck = l.othersBck := rfl
@[simp] theorem LineIf.release_othersBda (l : LineIf) : l.release.othersBda = l.othersBda := rfl
@[simp] theorem LineIf.release_bckSeen (l : LineIf) : l.release.bckSeen = l.bckSeen := rfl
@[simp] theorem LineIf.release_bdaSeen (l : LineIf) : l.release.bdaSeen = l.bdaSeen := rfl
@[simp] theorem LineIf.release_driveBck (l : LineIf) : l.release.driveBck = false := rfl
@[simp] theorem LineIf.release_driveBda (l : LineIf) : l.release.driveBda = false := rfl
@[simp] theorem LineIf.release_placing (l : LineIf) : l.release.placing = none := rfl
@[simp] theorem LineIf.release_hold (l : LineIf) : l.release.hold = .none := rfl
@[simp] theorem LineIf.release_right (l : LineIf) : l.release.right = l.right := rfl
@[simp] theorem LineIf.release_bck (l : LineIf) : l.release.bck = (l.othersBck && !false) := rfl
@[simp] theorem LineIf.release_bda (l : LineIf) : l.release.bda = (l.othersBda && !false) := rfl

@[simp] theorem LineIf.restart_cond (l : LineIf) : l.restart.cond = LineIf.initial.cond := rfl
@[simp] theorem LineIf.restart_frameOpen (l : LineIf) : l.restart.frameOpen = LineIf.initial.frameOpen := rfl
@[simp] theorem LineIf.restart_seenIdle (l : LineIf) : l.restart.seenIdle = LineIf.initial.seenIdle := rfl
@[simp] theorem LineIf.restart_yieldOwed (l : LineIf) : l.restart.yieldOwed = LineIf.initial.yieldOwed := rfl
@[simp] theorem LineIf.restart_phase (l : LineIf) : l.restart.phase = LineIf.initial.phase := rfl
@[simp] theorem LineIf.restart_halfTimer (l : LineIf) : l.restart.halfTimer = LineIf.initial.halfTimer := rfl
@[simp] theorem LineIf.restart_othersBck (l : LineIf) : l.restart.othersBck = l.othersBck := rfl
@[simp] theorem LineIf.restart_othersBda (l : LineIf) : l.restart.othersBda = l.othersBda := rfl
@[simp] theorem LineIf.restart_bckSeen (l : LineIf) : l.restart.bckSeen = l.othersBck := rfl
@[simp] theorem LineIf.restart_bdaSeen (l : LineIf) : l.restart.bdaSeen = l.othersBda := rfl
@[simp] theorem LineIf.restart_driveBck (l : LineIf) : l.restart.driveBck = LineIf.initial.driveBck := rfl
@[simp] theorem LineIf.restart_driveBda (l : LineIf) : l.restart.driveBda = LineIf.initial.driveBda := rfl
@[simp] theorem LineIf.restart_placing (l : LineIf) : l.restart.placing = LineIf.initial.placing := rfl
@[simp] theorem LineIf.restart_hold (l : LineIf) : l.restart.hold = LineIf.initial.hold := rfl
@[simp] theorem LineIf.restart_right (l : LineIf) : l.restart.right = LineIf.initial.right := rfl

end Sys2Proof.Machine
end

