-- ==== Sys2Proof/Laws/Ops.lean ====
section
/-! SUPPORT. What each shared operation leaves as it was (its frame), and what it does. -/

namespace Sys2Proof.Machine

/-! ### Frames -/

@[simp] theorem State.post_frame (s : State) (n : Notice) :
    (s.post n).pending = s.pending ∧ (s.post n).now = s.now ∧
      (s.post n).free = s.free ∧ (s.post n).resetPin = s.resetPin ∧
      (s.post n).pfailPin = s.pfailPin ∧ (s.post n).control = s.control ∧
      (s.post n).line = s.line ∧ (s.post n).fe = s.fe ∧
      (s.post n).table = s.table ∧ (s.post n).sendQ = s.sendQ ∧
      (s.post n).sync = s.sync ∧ (s.post n).store = s.store ∧
      (s.post n).reports = s.reports := by
  simp [State.post]

@[simp] theorem State.answer_frame (s : State) (c : ResultCode) (d : List Byte) :
    (s.answer c d).pending = s.pending ∧ (s.answer c d).now = s.now ∧
      (s.answer c d).free = s.free ∧ (s.answer c d).resetPin = s.resetPin ∧
      (s.answer c d).pfailPin = s.pfailPin ∧ (s.answer c d).control = s.control ∧
      (s.answer c d).line = s.line ∧ (s.answer c d).fe = s.fe ∧
      (s.answer c d).table = s.table ∧ (s.answer c d).sendQ = s.sendQ ∧
      (s.answer c d).sync = s.sync ∧ (s.answer c d).store = s.store ∧
      (s.answer c d).reports = s.reports := by
  unfold State.answer
  split <;> simp

@[simp] theorem State.setQueue_frame (s : State) (q : List SendItem) :
    (s.setQueue q).pending = s.pending ∧ (s.setQueue q).now = s.now ∧
      (s.setQueue q).free = s.free ∧ (s.setQueue q).resetPin = s.resetPin ∧
      (s.setQueue q).pfailPin = s.pfailPin ∧ (s.setQueue q).control = s.control ∧
      (s.setQueue q).line = s.line ∧ (s.setQueue q).table = s.table ∧
      (s.setQueue q).sync = s.sync ∧ (s.setQueue q).store = s.store ∧
      (s.setQueue q).port = s.port ∧ (s.setQueue q).reports = s.reports := by
  simp [State.setQueue]

@[simp] theorem State.append_frame (s : State) (p : Payload) :
    (s.append p).pending = s.pending ∧ (s.append p).now = s.now ∧
      (s.append p).free = s.free ∧ (s.append p).resetPin = s.resetPin ∧
      (s.append p).pfailPin = s.pfailPin ∧ (s.append p).control = s.control ∧
      (s.append p).line = s.line ∧ (s.append p).table = s.table ∧
      (s.append p).sync = s.sync ∧ (s.append p).store = s.store ∧
      (s.append p).port = s.port ∧ (s.append p).reports = s.reports := by
  unfold State.append
  split <;> simp

@[simp] theorem State.claimPublish_frame (s : State) (t : Tag) :
    (s.claimPublish t).pending = s.pending ∧ (s.claimPublish t).now = s.now ∧
      (s.claimPublish t).free = s.free ∧ (s.claimPublish t).resetPin = s.resetPin ∧
      (s.claimPublish t).pfailPin = s.pfailPin ∧ (s.claimPublish t).control = s.control ∧
      (s.claimPublish t).line = s.line ∧ (s.claimPublish t).table = s.table ∧
      (s.claimPublish t).sync = s.sync ∧ (s.claimPublish t).store = s.store ∧
      (s.claimPublish t).port = s.port ∧ (s.claimPublish t).reports = s.reports := by
  simp [State.claimPublish]

@[simp] theorem State.claimWritten_frame (s : State) (t : Tag) :
    (s.claimWritten t).pending = s.pending ∧ (s.claimWritten t).now = s.now ∧
      (s.claimWritten t).free = s.free ∧ (s.claimWritten t).resetPin = s.resetPin ∧
      (s.claimWritten t).pfailPin = s.pfailPin ∧ (s.claimWritten t).control = s.control ∧
      (s.claimWritten t).line = s.line ∧ (s.claimWritten t).table = s.table ∧
      (s.claimWritten t).sync = s.sync ∧ (s.claimWritten t).store = s.store ∧
      (s.claimWritten t).port = s.port ∧ (s.claimWritten t).reports = s.reports := by
  unfold State.claimWritten
  split <;> simp

@[simp] theorem State.suppress_frame (s : State) (t : Tag) :
    (s.suppress t).pending = s.pending ∧ (s.suppress t).now = s.now ∧
      (s.suppress t).free = s.free ∧ (s.suppress t).resetPin = s.resetPin ∧
      (s.suppress t).pfailPin = s.pfailPin ∧ (s.suppress t).control = s.control ∧
      (s.suppress t).line = s.line ∧ (s.suppress t).table = s.table ∧
      (s.suppress t).sync = s.sync ∧ (s.suppress t).store = s.store ∧
      (s.suppress t).port = s.port ∧ (s.suppress t).reports = s.reports := by
  simp [State.suppress]

@[simp] theorem State.changeEntry_frame (s : State) (e : Entry) :
    (s.changeEntry e).pending = s.pending ∧ (s.changeEntry e).now = s.now ∧
      (s.changeEntry e).free = s.free ∧ (s.changeEntry e).resetPin = s.resetPin ∧
      (s.changeEntry e).pfailPin = s.pfailPin ∧ (s.changeEntry e).control = s.control ∧
      (s.changeEntry e).line = s.line ∧ (s.changeEntry e).fe = s.fe ∧
      (s.changeEntry e).sendQ = s.sendQ ∧ (s.changeEntry e).sync = s.sync ∧
      (s.changeEntry e).port = s.port ∧ (s.changeEntry e).reports = s.reports := by
  simp [State.changeEntry]

@[simp] theorem State.noteUnstored_frame (s : State) (t : Tag) :
    (s.noteUnstored t).pending = s.pending ∧ (s.noteUnstored t).now = s.now ∧
      (s.noteUnstored t).free = s.free ∧ (s.noteUnstored t).resetPin = s.resetPin ∧
      (s.noteUnstored t).pfailPin = s.pfailPin ∧ (s.noteUnstored t).control = s.control ∧
      (s.noteUnstored t).line = s.line ∧ (s.noteUnstored t).fe = s.fe ∧
      (s.noteUnstored t).table = s.table ∧ (s.noteUnstored t).sendQ = s.sendQ ∧
      (s.noteUnstored t).sync = s.sync ∧ (s.noteUnstored t).store = s.store ∧
      (s.noteUnstored t).reports = s.reports := by
  unfold State.noteUnstored
  (repeat' split) <;> simp

@[simp] theorem State.modifyEntry_frame (s : State) (t : Tag) (f : Entry → Entry) :
    (s.modifyEntry t f).pending = s.pending ∧ (s.modifyEntry t f).now = s.now ∧
      (s.modifyEntry t f).free = s.free ∧ (s.modifyEntry t f).resetPin = s.resetPin ∧
      (s.modifyEntry t f).pfailPin = s.pfailPin ∧ (s.modifyEntry t f).control = s.control ∧
      (s.modifyEntry t f).line = s.line ∧ (s.modifyEntry t f).fe = s.fe ∧
      (s.modifyEntry t f).sendQ = s.sendQ ∧ (s.modifyEntry t f).sync = s.sync ∧
      (s.modifyEntry t f).store = s.store ∧ (s.modifyEntry t f).port = s.port ∧
      (s.modifyEntry t f).reports = s.reports := by
  unfold State.modifyEntry
  split <;> simp

@[simp] theorem State.setStoreState_frame (s : State) (t : Tag) (x : StoreState) :
    (s.setStoreState t x).pending = s.pending ∧ (s.setStoreState t x).now = s.now ∧
      (s.setStoreState t x).free = s.free ∧ (s.setStoreState t x).resetPin = s.resetPin ∧
      (s.setStoreState t x).pfailPin = s.pfailPin ∧ (s.setStoreState t x).control = s.control ∧
      (s.setStoreState t x).line = s.line ∧ (s.setStoreState t x).fe = s.fe ∧
      (s.setStoreState t x).sendQ = s.sendQ ∧ (s.setStoreState t x).sync = s.sync ∧
      (s.setStoreState t x).store = s.store ∧ (s.setStoreState t x).port = s.port ∧
      (s.setStoreState t x).reports = s.reports := by
  simp [State.setStoreState]

@[simp] theorem State.claimDigest_frame (s : State) :
    (s.claimDigest).pending = s.pending ∧ (s.claimDigest).now = s.now ∧
      (s.claimDigest).free = s.free ∧ (s.claimDigest).resetPin = s.resetPin ∧
      (s.claimDigest).pfailPin = s.pfailPin ∧ (s.claimDigest).control = s.control ∧
      (s.claimDigest).line = s.line ∧ (s.claimDigest).table = s.table ∧
      (s.claimDigest).store = s.store ∧ (s.claimDigest).port = s.port ∧
      (s.claimDigest).reports = s.reports := by
  unfold State.claimDigest
  (repeat' split) <;> simp

@[simp] theorem State.claimPull_frame (s : State) :
    (s.claimPull).pending = s.pending ∧ (s.claimPull).now = s.now ∧
      (s.claimPull).free = s.free ∧ (s.claimPull).resetPin = s.resetPin ∧
      (s.claimPull).pfailPin = s.pfailPin ∧ (s.claimPull).control = s.control ∧
      (s.claimPull).line = s.line ∧ (s.claimPull).table = s.table ∧
      (s.claimPull).sync = s.sync ∧ (s.claimPull).store = s.store ∧
      (s.claimPull).port = s.port ∧ (s.claimPull).reports = s.reports := by
  unfold State.claimPull
  split <;> simp

@[simp] theorem State.startRun_frame (s : State) :
    (s.startRun).pending = s.pending ∧ (s.startRun).now = s.now ∧
      (s.startRun).free = s.free ∧ (s.startRun).resetPin = s.resetPin ∧
      (s.startRun).pfailPin = s.pfailPin ∧ (s.startRun).control = s.control ∧
      (s.startRun).line = s.line ∧ (s.startRun).table = s.table ∧
      (s.startRun).store = s.store ∧ (s.startRun).port = s.port ∧
      (s.startRun).reports = s.reports := by
  unfold State.startRun
  split <;> simp

@[simp] theorem State.testReady_frame (s : State) :
    (s.testReady).pending = s.pending ∧ (s.testReady).now = s.now ∧
      (s.testReady).free = s.free ∧ (s.testReady).resetPin = s.resetPin ∧
      (s.testReady).pfailPin = s.pfailPin ∧ (s.testReady).control = s.control ∧
      (s.testReady).line = s.line ∧ (s.testReady).fe = s.fe ∧
      (s.testReady).table = s.table ∧ (s.testReady).sendQ = s.sendQ ∧
      (s.testReady).store = s.store ∧ (s.testReady).port = s.port := by
  unfold State.testReady
  split <;> simp

@[simp] theorem State.endRun_frame (s : State) :
    (s.endRun).pending = s.pending ∧ (s.endRun).now = s.now ∧
      (s.endRun).free = s.free ∧ (s.endRun).resetPin = s.resetPin ∧
      (s.endRun).pfailPin = s.pfailPin ∧ (s.endRun).control = s.control ∧
      (s.endRun).line = s.line ∧ (s.endRun).fe = s.fe ∧
      (s.endRun).table = s.table ∧ (s.endRun).sendQ = s.sendQ ∧
      (s.endRun).store = s.store ∧ (s.endRun).port = s.port := by
  simp [State.endRun]

@[simp] theorem State.adoptionReport_frame (s : State) (t : Tag) (p : OrderPair) :
    (s.adoptionReport t p).pending = s.pending ∧ (s.adoptionReport t p).now = s.now ∧
      (s.adoptionReport t p).free = s.free ∧ (s.adoptionReport t p).resetPin = s.resetPin ∧
      (s.adoptionReport t p).pfailPin = s.pfailPin ∧ (s.adoptionReport t p).control = s.control ∧
      (s.adoptionReport t p).line = s.line ∧ (s.adoptionReport t p).fe = s.fe ∧
      (s.adoptionReport t p).table = s.table ∧ (s.adoptionReport t p).sendQ = s.sendQ ∧
      (s.adoptionReport t p).store = s.store ∧ (s.adoptionReport t p).port = s.port := by
  simp [State.adoptionReport]

@[simp] theorem State.enterWanted_frame (s : State) (t : Tag) (p : OrderPair) :
    (s.enterWanted t p).pending = s.pending ∧ (s.enterWanted t p).now = s.now ∧
      (s.enterWanted t p).free = s.free ∧ (s.enterWanted t p).resetPin = s.resetPin ∧
      (s.enterWanted t p).pfailPin = s.pfailPin ∧ (s.enterWanted t p).control = s.control ∧
      (s.enterWanted t p).line = s.line ∧ (s.enterWanted t p).table = s.table ∧
      (s.enterWanted t p).store = s.store ∧ (s.enterWanted t p).port = s.port ∧
      (s.enterWanted t p).reports = s.reports := by
  unfold State.enterWanted
  (repeat' split) <;> simp

@[simp] theorem State.reportPartEnded_frame (s : State) :
    (s.reportPartEnded).pending = s.pending ∧ (s.reportPartEnded).now = s.now ∧
      (s.reportPartEnded).free = s.free ∧ (s.reportPartEnded).resetPin = s.resetPin ∧
      (s.reportPartEnded).pfailPin = s.pfailPin ∧ (s.reportPartEnded).control = s.control ∧
      (s.reportPartEnded).line = s.line ∧ (s.reportPartEnded).fe = s.fe ∧
      (s.reportPartEnded).table = s.table ∧ (s.reportPartEnded).sendQ = s.sendQ ∧
      (s.reportPartEnded).sync = s.sync ∧ (s.reportPartEnded).store = s.store ∧
      (s.reportPartEnded).port = s.port := by
  unfold State.reportPartEnded
  split <;> simp

/-! ### What the shared operations do -/

/-- An answer to a request in hand makes the port READY with the response, and nothing else. -/
theorem State.answer_working (s : State) (c : ResultCode) (d : List Byte) (h : s.port.state = .working) :
    s.answer c d = s.setPort { s.port with state := .ready, response := some ⟨c, d⟩ } := by
  simp [State.answer, h]

/-- An answer with no request in hand changes nothing. -/
theorem State.answer_other (s : State) (c : ResultCode) (d : List Byte) (h : s.port.state ≠ .working) :
    s.answer c d = s := by
  simp [State.answer, h]

/-- An answer leaves the notices, ATTN and OVERRUN. -/
@[simp] theorem State.answer_port_kept (s : State) (c : ResultCode) (d : List Byte) :
    (s.answer c d).port.notices = s.port.notices ∧ (s.answer c d).port.attn = s.port.attn ∧
      (s.answer c d).port.overrun = s.port.overrun := by
  unfold State.answer
  split <;> simp

@[simp] theorem State.post_port (s : State) (n : Notice) :
    (s.post n).port = s.port.setNotices (postInto s.port.notices n) := rfl

/-- R177: a post keeps the queue within its capacity. -/
theorem postInto_length (q : List Notice) (n : Notice) (h : q.length ≤ maxNotices) :
    (postInto q n).length ≤ maxNotices := by
  unfold postInto
  (repeat' split) <;> simp_all [maxNotices] <;> omega

/-- A post never empties the queue. -/
theorem postInto_ne_nil (q : List Notice) (n : Notice) : postInto q n ≠ [] := by
  unfold postInto
  split
  · rename_i h
    cases q with
    | nil => simp at h
    | cons x xs => simp
  · split
    · rename_i h
      cases q with
      | nil => simp [endsLost] at h
      | cons x xs => simp
    · split
      · simp
      · split
        · simp
        · rename_i h1 h2
          cases q with
          | nil => simp [maxNotices] at h1
          | cons x xs => simp

/-- R93: an append claim places an item exactly when it is answered PLACED. -/
theorem State.append_cases (s : State) (p : Payload) :
    (s.appendAnswer p = .placed ∧ s.append p = s.setQueue (placeItem s.sendQ p)) ∨
      (s.appendAnswer p ≠ .placed ∧ s.append p = s) := by
  unfold State.append
  cases h : s.appendAnswer p <;> simp

/-- R93: an append claim is answered PLACED in JOINING or ACTIVE, with no such item queued and a place free. -/
theorem State.appendAnswer_placed_iff (s : State) (p : Payload) :
    s.appendAnswer p = .placed ↔ s.onBus = true ∧ findItem s.sendQ p = none ∧ s.sendQ.length < maxItems := by
  unfold State.appendAnswer
  split
  · simp_all
  · split
    · simp_all
    · split <;> simp_all

/-- R92: a new item adds one to the queue. -/
@[simp] theorem placeItem_length (q : List SendItem) (p : Payload) : (placeItem q p).length = q.length + 1 := by
  unfold placeItem
  split
  · split <;> simp
  · simp

@[simp] theorem State.setQueue_sendQ (s : State) (q : List SendItem) : (s.setQueue q).sendQ = q := rfl
@[simp] theorem State.setQueue_fe (s : State) (q : List SendItem) :
    (s.setQueue q).fe = { s.fe with tx := s.fe.tx.follow q } := rfl

/-- R4: the entry found for a tag after one is put into the list. -/
theorem find_insertEntry (e : Entry) (l : List Entry) (t : Tag) :
    (insertEntry e l).find? (fun x => x.tag == t) =
      if e.tag = t then some e else l.find? (fun x => x.tag == t) := by
  induction l with
  | nil =>
    by_cases h : e.tag = t
    · simp [insertEntry, h]
    · simp [insertEntry, h]
  | cons x rest ih =>
    unfold insertEntry
    by_cases h : e.tag = t
    · have hb : (e.tag == t) = true := by simpa using h
      split
      · simp [hb, h]
      · split
        · simp [hb, h]
        · rename_i h1 h2
          have hx : (x.tag == t) = false := by
            have : e.tag ≠ x.tag := by simpa using h2
            simpa using fun hc => this (h.trans hc.symm)
          rw [List.find?_cons, hx]
          simp [h] at ih ⊢
          exact ih
    · have hb : (e.tag == t) = false := by simpa using h
      split
      · simp [List.find?_cons, hb, h]
      · split
        · rename_i h1 h2
          have hx : e.tag = x.tag := by simpa using h2
          simp [List.find?_cons, ← hx, hb, h]
        · simp [List.find?_cons, ih, h]

/-- R4: the entry held for a tag after one is put into the table. -/
@[simp] theorem RecordTable.find_put (t : RecordTable) (e : Entry) (u : Tag) :
    (t.put e).find u = if u = e.tag then some e else t.find u := by
  have h := find_insertEntry e t.entries u
  unfold RecordTable.find RecordTable.put
  rw [h]
  by_cases hu : e.tag = u
  · simp [hu]
  · have : ¬ u = e.tag := fun hc => hu hc.symm
    simp [hu, this]

/-- R6: the summary after an entry is put into the table. -/
@[simp] theorem RecordTable.put_summary (t : RecordTable) (e : Entry) :
    (t.put e).summary = t.summary - t.heldTerm e.tag + e.term := rfl

/-- The entry found for a tag bears that tag. -/
theorem RecordTable.find_tag {t : RecordTable} {u : Tag} {e : Entry} (h : t.find u = some e) : e.tag = u := by
  unfold RecordTable.find at h
  simpa using List.find?_some h

/-- R13: a change of an entry, as one update of the table and one of the store. -/
theorem State.changeEntry_table (s : State) (e : Entry) :
    (s.changeEntry e).table = s.table.put
      { e with
        storeState :=
          storeStateAfter e.persistent s.table.placeFree ((s.table.find e.tag).map (·.storeState)) } := rfl

/-- R13: what a change of an entry does to the store. -/
theorem State.changeEntry_store (s : State) (e : Entry) :
    (s.changeEntry e).store = { s.store with
      commitQ :=
        if storeStateAfter e.persistent s.table.placeFree ((s.table.find e.tag).map (·.storeState)) = .dirty
        then queueCommit s.store.commitQ e.tag else s.store.commitQ
      engine := s.store.engine.markChanged e.tag } := rfl

/-- A change of one field of a held entry leaves every other entry. -/
theorem State.modifyEntry_find (s : State) (tag : Tag) (f : Entry → Entry) (e : Entry) (h : s.table.find tag = some e)
    (hf : (f e).tag = tag) (u : Tag) :
    (s.modifyEntry tag f).table.find u = if u = tag then some (f e) else s.table.find u := by
  simp [State.modifyEntry, h, hf]

/-- A change of no order pair leaves the summary (R6). -/
theorem State.modifyEntry_summary (s : State) (tag : Tag) (f : Entry → Entry) (hf : ∀ e, (f e).tag = e.tag ∧
    (f e).pair = e.pair) : (s.modifyEntry tag f).table.summary = s.table.summary := by
  unfold State.modifyEntry
  split
  · rename_i e h
    have he := RecordTable.find_tag h
    simp [RecordTable.heldTerm, (hf e).1, he, h, Entry.term, (hf e).2]
  · rfl


end Sys2Proof.Machine
end

