-- ==== Sys2Proof/Laws/FrameOps.lean ====
section
/-! SUPPORT. What each operation of the Frame Engine leaves as it was. -/

namespace Sys2Proof.Machine

/-! ### Frames -/

@[simp] theorem State.rest_frame (s : State) :
    (s.rest).pending = s.pending ∧ (s.rest).now = s.now ∧
      (s.rest).free = s.free ∧ (s.rest).resetPin = s.resetPin ∧
      (s.rest).pfailPin = s.pfailPin ∧ (s.rest).control = s.control ∧
      (s.rest).line = s.line ∧ (s.rest).table = s.table ∧
      (s.rest).sendQ = s.sendQ ∧ (s.rest).sync = s.sync ∧
      (s.rest).store = s.store ∧ (s.rest).port = s.port ∧
      (s.rest).reports = s.reports := by
  simp [State.rest]

@[simp] theorem State.launch_frame (s : State) (i : SendItem) (q : List SendItem) (f : Snapshot) :
    (s.launch i q f).pending = s.pending ∧ (s.launch i q f).now = s.now ∧
      (s.launch i q f).free = s.free ∧ (s.launch i q f).resetPin = s.resetPin ∧
      (s.launch i q f).pfailPin = s.pfailPin ∧ (s.launch i q f).control = s.control ∧
      (s.launch i q f).table = s.table ∧ (s.launch i q f).sync = s.sync ∧
      (s.launch i q f).store = s.store ∧ (s.launch i q f).port = s.port ∧
      (s.launch i q f).reports = s.reports := by
  simp [State.launch]

@[simp] theorem State.openItem_frame (s : State) (i : SendItem) (q : List SendItem) :
    (s.openItem i q).pending = s.pending ∧ (s.openItem i q).now = s.now ∧
      (s.openItem i q).free = s.free ∧ (s.openItem i q).resetPin = s.resetPin ∧
      (s.openItem i q).pfailPin = s.pfailPin ∧ (s.openItem i q).control = s.control ∧
      (s.openItem i q).table = s.table ∧ (s.openItem i q).store = s.store ∧
      (s.openItem i q).port = s.port ∧ (s.openItem i q).reports = s.reports := by
  unfold State.openItem
  (repeat' split) <;> simp

@[simp] theorem State.openHead_frame (s : State) :
    (s.openHead).pending = s.pending ∧ (s.openHead).now = s.now ∧
      (s.openHead).free = s.free ∧ (s.openHead).resetPin = s.resetPin ∧
      (s.openHead).pfailPin = s.pfailPin ∧ (s.openHead).control = s.control ∧
      (s.openHead).table = s.table ∧ (s.openHead).store = s.store ∧
      (s.openHead).port = s.port ∧ (s.openHead).reports = s.reports := by
  unfold State.openHead
  (repeat' split) <;> simp <;> (repeat' split) <;> simp

@[simp] theorem State.toldReturned_frame (s : State) (k : FrameKind) :
    (s.toldReturned k).pending = s.pending ∧ (s.toldReturned k).now = s.now ∧
      (s.toldReturned k).free = s.free ∧ (s.toldReturned k).resetPin = s.resetPin ∧
      (s.toldReturned k).pfailPin = s.pfailPin ∧ (s.toldReturned k).control = s.control ∧
      (s.toldReturned k).line = s.line ∧ (s.toldReturned k).fe = s.fe ∧
      (s.toldReturned k).table = s.table ∧ (s.toldReturned k).sendQ = s.sendQ ∧
      (s.toldReturned k).store = s.store ∧ (s.toldReturned k).port = s.port ∧
      (s.toldReturned k).reports = s.reports := by
  unfold State.toldReturned
  split <;> simp

@[simp] theorem State.returnItem_frame (s : State) :
    (s.returnItem).pending = s.pending ∧ (s.returnItem).now = s.now ∧
      (s.returnItem).free = s.free ∧ (s.returnItem).resetPin = s.resetPin ∧
      (s.returnItem).pfailPin = s.pfailPin ∧ (s.returnItem).control = s.control ∧
      (s.returnItem).line = s.line ∧ (s.returnItem).fe = s.fe ∧
      (s.returnItem).table = s.table ∧ (s.returnItem).store = s.store ∧
      (s.returnItem).port = s.port ∧ (s.returnItem).reports = s.reports := by
  unfold State.returnItem
  (repeat' split) <;> simp

@[simp] theorem State.clearUnsent_frame (s : State) (t : Tag) (c : Option OrderPair) :
    (s.clearUnsent t c).pending = s.pending ∧ (s.clearUnsent t c).now = s.now ∧
      (s.clearUnsent t c).free = s.free ∧ (s.clearUnsent t c).resetPin = s.resetPin ∧
      (s.clearUnsent t c).pfailPin = s.pfailPin ∧ (s.clearUnsent t c).control = s.control ∧
      (s.clearUnsent t c).line = s.line ∧ (s.clearUnsent t c).fe = s.fe ∧
      (s.clearUnsent t c).sendQ = s.sendQ ∧ (s.clearUnsent t c).sync = s.sync ∧
      (s.clearUnsent t c).store = s.store ∧ (s.clearUnsent t c).port = s.port ∧
      (s.clearUnsent t c).reports = s.reports := by
  simp [State.clearUnsent]

@[simp] theorem State.postIf_frame (s : State) (n : Option Notice) :
    (s.postIf n).pending = s.pending ∧ (s.postIf n).now = s.now ∧
      (s.postIf n).free = s.free ∧ (s.postIf n).resetPin = s.resetPin ∧
      (s.postIf n).pfailPin = s.pfailPin ∧ (s.postIf n).control = s.control ∧
      (s.postIf n).line = s.line ∧ (s.postIf n).fe = s.fe ∧
      (s.postIf n).table = s.table ∧ (s.postIf n).sendQ = s.sendQ ∧
      (s.postIf n).sync = s.sync ∧ (s.postIf n).store = s.store ∧
      (s.postIf n).reports = s.reports := by
  unfold State.postIf
  split <;> simp

@[simp] theorem State.digestCompleted_frame (s : State) (o : Outcome) :
    (s.digestCompleted o).pending = s.pending ∧ (s.digestCompleted o).now = s.now ∧
      (s.digestCompleted o).free = s.free ∧ (s.digestCompleted o).resetPin = s.resetPin ∧
      (s.digestCompleted o).pfailPin = s.pfailPin ∧ (s.digestCompleted o).control = s.control ∧
      (s.digestCompleted o).line = s.line ∧ (s.digestCompleted o).table = s.table ∧
      (s.digestCompleted o).store = s.store ∧ (s.digestCompleted o).port = s.port := by
  unfold State.digestCompleted
  (repeat' split) <;> simp

@[simp] theorem State.toldCompleted_frame (s : State) (k : FrameKind) (o : Outcome) :
    (s.toldCompleted k o).pending = s.pending ∧ (s.toldCompleted k o).now = s.now ∧
      (s.toldCompleted k o).free = s.free ∧ (s.toldCompleted k o).resetPin = s.resetPin ∧
      (s.toldCompleted k o).pfailPin = s.pfailPin ∧ (s.toldCompleted k o).control = s.control ∧
      (s.toldCompleted k o).line = s.line ∧ (s.toldCompleted k o).table = s.table ∧
      (s.toldCompleted k o).store = s.store ∧ (s.toldCompleted k o).port = s.port := by
  unfold State.toldCompleted
  split <;> simp

@[simp] theorem State.complete_frame (s : State) (o : Outcome) :
    (s.complete o).pending = s.pending ∧ (s.complete o).now = s.now ∧
      (s.complete o).free = s.free ∧ (s.complete o).resetPin = s.resetPin ∧
      (s.complete o).pfailPin = s.pfailPin ∧ (s.complete o).control = s.control ∧
      (s.complete o).line = s.line ∧ (s.complete o).store = s.store := by
  unfold State.complete
  (repeat' split) <;> simp

@[simp] theorem State.countAttempt_frame (s : State) :
    (s.countAttempt).pending = s.pending ∧ (s.countAttempt).now = s.now ∧
      (s.countAttempt).free = s.free ∧ (s.countAttempt).resetPin = s.resetPin ∧
      (s.countAttempt).pfailPin = s.pfailPin ∧ (s.countAttempt).control = s.control ∧
      (s.countAttempt).line = s.line ∧ (s.countAttempt).store = s.store := by
  unfold State.countAttempt
  (repeat' split) <;> simp

@[simp] theorem State.fixOutcome_frame (s : State) :
    (s.fixOutcome).pending = s.pending ∧ (s.fixOutcome).now = s.now ∧
      (s.fixOutcome).free = s.free ∧ (s.fixOutcome).resetPin = s.resetPin ∧
      (s.fixOutcome).pfailPin = s.pfailPin ∧ (s.fixOutcome).control = s.control ∧
      (s.fixOutcome).line = s.line ∧ (s.fixOutcome).store = s.store := by
  unfold State.fixOutcome
  simp; (repeat' split) <;> simp

@[simp] theorem State.applyLateLoss_frame (s : State) :
    (s.applyLateLoss).pending = s.pending ∧ (s.applyLateLoss).now = s.now ∧
      (s.applyLateLoss).free = s.free ∧ (s.applyLateLoss).resetPin = s.resetPin ∧
      (s.applyLateLoss).pfailPin = s.pfailPin ∧ (s.applyLateLoss).control = s.control ∧
      (s.applyLateLoss).line = s.line ∧ (s.applyLateLoss).table = s.table ∧
      (s.applyLateLoss).sync = s.sync ∧ (s.applyLateLoss).store = s.store ∧
      (s.applyLateLoss).reports = s.reports := by
  unfold State.applyLateLoss
  (repeat' split) <;> simp

@[simp] theorem State.lossNotConfirmed_frame (s : State) :
    (s.lossNotConfirmed).pending = s.pending ∧ (s.lossNotConfirmed).now = s.now ∧
      (s.lossNotConfirmed).free = s.free ∧ (s.lossNotConfirmed).resetPin = s.resetPin ∧
      (s.lossNotConfirmed).pfailPin = s.pfailPin ∧ (s.lossNotConfirmed).control = s.control ∧
      (s.lossNotConfirmed).line = s.line ∧ (s.lossNotConfirmed).store = s.store := by
  simp [State.lossNotConfirmed]

@[simp] theorem State.reportDuplicate_frame (s : State) :
    (s.reportDuplicate).pending = s.pending ∧ (s.reportDuplicate).now = s.now ∧
      (s.reportDuplicate).free = s.free ∧ (s.reportDuplicate).resetPin = s.resetPin ∧
      (s.reportDuplicate).pfailPin = s.pfailPin ∧ (s.reportDuplicate).control = s.control ∧
      (s.reportDuplicate).line = s.line ∧ (s.reportDuplicate).fe = s.fe ∧
      (s.reportDuplicate).table = s.table ∧ (s.reportDuplicate).sendQ = s.sendQ ∧
      (s.reportDuplicate).sync = s.sync ∧ (s.reportDuplicate).store = s.store ∧
      (s.reportDuplicate).port = s.port := by
  simp [State.reportDuplicate]

@[simp] theorem State.endLateLoss_frame (s : State) :
    (s.endLateLoss).pending = s.pending ∧ (s.endLateLoss).now = s.now ∧
      (s.endLateLoss).free = s.free ∧ (s.endLateLoss).resetPin = s.resetPin ∧
      (s.endLateLoss).pfailPin = s.pfailPin ∧ (s.endLateLoss).control = s.control ∧
      (s.endLateLoss).line = s.line ∧ (s.endLateLoss).store = s.store := by
  unfold State.endLateLoss
  (repeat' split) <;> simp

@[simp] theorem State.leaveFrame_frame (s : State) :
    (s.leaveFrame).pending = s.pending ∧ (s.leaveFrame).now = s.now ∧
      (s.leaveFrame).free = s.free ∧ (s.leaveFrame).resetPin = s.resetPin ∧
      (s.leaveFrame).pfailPin = s.pfailPin ∧ (s.leaveFrame).control = s.control ∧
      (s.leaveFrame).line = s.line ∧ (s.leaveFrame).table = s.table ∧
      (s.leaveFrame).sendQ = s.sendQ ∧ (s.leaveFrame).sync = s.sync ∧
      (s.leaveFrame).store = s.store ∧ (s.leaveFrame).port = s.port := by
  simp [State.leaveFrame]

@[simp] theorem State.abandonFrame_frame (s : State) :
    (s.abandonFrame).pending = s.pending ∧ (s.abandonFrame).now = s.now ∧
      (s.abandonFrame).free = s.free ∧ (s.abandonFrame).resetPin = s.resetPin ∧
      (s.abandonFrame).pfailPin = s.pfailPin ∧ (s.abandonFrame).control = s.control ∧
      (s.abandonFrame).line = s.line ∧ (s.abandonFrame).store = s.store := by
  unfold State.abandonFrame
  (repeat' split) <;> simp

@[simp] theorem State.cutFrame_frame (s : State) :
    (s.cutFrame).pending = s.pending ∧ (s.cutFrame).now = s.now ∧
      (s.cutFrame).free = s.free ∧ (s.cutFrame).resetPin = s.resetPin ∧
      (s.cutFrame).pfailPin = s.pfailPin ∧ (s.cutFrame).control = s.control ∧
      (s.cutFrame).line = s.line ∧ (s.cutFrame).table = s.table ∧
      (s.cutFrame).store = s.store ∧ (s.cutFrame).port = s.port := by
  unfold State.cutFrame
  split <;> simp

@[simp] theorem State.dropFrame_frame (s : State) :
    (s.dropFrame).pending = s.pending ∧ (s.dropFrame).now = s.now ∧
      (s.dropFrame).free = s.free ∧ (s.dropFrame).resetPin = s.resetPin ∧
      (s.dropFrame).pfailPin = s.pfailPin ∧ (s.dropFrame).control = s.control ∧
      (s.dropFrame).line = s.line ∧ (s.dropFrame).table = s.table ∧
      (s.dropFrame).store = s.store ∧ (s.dropFrame).port = s.port := by
  unfold State.dropFrame
  simp; (repeat' split) <;> simp

@[simp] theorem State.castVote_frame (s : State) (v : Vote) :
    (s.castVote v).pending = s.pending ∧ (s.castVote v).now = s.now ∧
      (s.castVote v).free = s.free ∧ (s.castVote v).resetPin = s.resetPin ∧
      (s.castVote v).pfailPin = s.pfailPin ∧ (s.castVote v).control = s.control ∧
      (s.castVote v).table = s.table ∧ (s.castVote v).sendQ = s.sendQ ∧
      (s.castVote v).sync = s.sync ∧ (s.castVote v).store = s.store ∧
      (s.castVote v).port = s.port ∧ (s.castVote v).reports = s.reports := by
  simp [State.castVote]

@[simp] theorem State.castNone_frame (s : State) :
    (s.castNone).pending = s.pending ∧ (s.castNone).now = s.now ∧
      (s.castNone).free = s.free ∧ (s.castNone).resetPin = s.resetPin ∧
      (s.castNone).pfailPin = s.pfailPin ∧ (s.castNone).control = s.control ∧
      (s.castNone).table = s.table ∧ (s.castNone).sendQ = s.sendQ ∧
      (s.castNone).sync = s.sync ∧ (s.castNone).store = s.store ∧
      (s.castNone).port = s.port ∧ (s.castNone).reports = s.reports := by
  simp [State.castNone]

@[simp] theorem State.becomeReceiver_frame (s : State) :
    (s.becomeReceiver).pending = s.pending ∧ (s.becomeReceiver).now = s.now ∧
      (s.becomeReceiver).free = s.free ∧ (s.becomeReceiver).resetPin = s.resetPin ∧
      (s.becomeReceiver).pfailPin = s.pfailPin ∧ (s.becomeReceiver).control = s.control ∧
      (s.becomeReceiver).table = s.table ∧ (s.becomeReceiver).sendQ = s.sendQ ∧
      (s.becomeReceiver).sync = s.sync ∧ (s.becomeReceiver).store = s.store ∧
      (s.becomeReceiver).port = s.port ∧ (s.becomeReceiver).reports = s.reports := by
  simp [State.becomeReceiver]

@[simp] theorem State.advanceTx_frame (s : State) (p : Option Bool) (b : Bool) :
    (s.advanceTx p b).pending = s.pending ∧ (s.advanceTx p b).now = s.now ∧
      (s.advanceTx p b).free = s.free ∧ (s.advanceTx p b).resetPin = s.resetPin ∧
      (s.advanceTx p b).pfailPin = s.pfailPin ∧ (s.advanceTx p b).control = s.control ∧
      (s.advanceTx p b).store = s.store := by
  unfold State.advanceTx
  (repeat' split) <;> simp <;> (repeat' split) <;> simp

@[simp] theorem State.clockRise_frame (s : State) :
    (s.clockRise).pending = s.pending ∧ (s.clockRise).now = s.now ∧
      (s.clockRise).free = s.free ∧ (s.clockRise).resetPin = s.resetPin ∧
      (s.clockRise).pfailPin = s.pfailPin ∧ (s.clockRise).control = s.control ∧
      (s.clockRise).fe = s.fe ∧ (s.clockRise).table = s.table ∧
      (s.clockRise).sendQ = s.sendQ ∧ (s.clockRise).sync = s.sync ∧
      (s.clockRise).store = s.store ∧ (s.clockRise).port = s.port ∧
      (s.clockRise).reports = s.reports := by
  unfold State.clockRise
  (repeat' split) <;> simp

@[simp] theorem State.riseInFrame_frame (s : State) (b : Bool) :
    (s.riseInFrame b).pending = s.pending ∧ (s.riseInFrame b).now = s.now ∧
      (s.riseInFrame b).free = s.free ∧ (s.riseInFrame b).resetPin = s.resetPin ∧
      (s.riseInFrame b).pfailPin = s.pfailPin ∧ (s.riseInFrame b).control = s.control ∧
      (s.riseInFrame b).store = s.store := by
  simp [State.riseInFrame]

@[simp] theorem State.rise_frame (s : State) (b : Bool) :
    (s.rise b).pending = s.pending ∧ (s.rise b).now = s.now ∧
      (s.rise b).free = s.free ∧ (s.rise b).resetPin = s.resetPin ∧
      (s.rise b).pfailPin = s.pfailPin ∧ (s.rise b).control = s.control ∧
      (s.rise b).store = s.store := by
  unfold State.rise State.readLines
  (repeat' split) <;> simp

end Sys2Proof.Machine
end

