-- ==== Sys2Proof/Laws/StoreOps.lean ====
section
/-! SUPPORT. What each operation of the write engine leaves as it was. -/

namespace Sys2Proof.Machine

/-! ### Frames -/

@[simp] theorem State.setArray_frame (s : State) (m : RetainedArray) :
    (s.setArray m).pending = s.pending ∧ (s.setArray m).now = s.now ∧
      (s.setArray m).free = s.free ∧ (s.setArray m).resetPin = s.resetPin ∧
      (s.setArray m).pfailPin = s.pfailPin ∧ (s.setArray m).control = s.control ∧
      (s.setArray m).line = s.line ∧ (s.setArray m).fe = s.fe ∧
      (s.setArray m).table = s.table ∧ (s.setArray m).sendQ = s.sendQ ∧
      (s.setArray m).sync = s.sync ∧ (s.setArray m).port = s.port ∧
      (s.setArray m).reports = s.reports := by
  simp [State.setArray]

@[simp] theorem State.setEngine_frame (s : State) (g : WriteEngine) :
    (s.setEngine g).pending = s.pending ∧ (s.setEngine g).now = s.now ∧
      (s.setEngine g).free = s.free ∧ (s.setEngine g).resetPin = s.resetPin ∧
      (s.setEngine g).pfailPin = s.pfailPin ∧ (s.setEngine g).control = s.control ∧
      (s.setEngine g).line = s.line ∧ (s.setEngine g).fe = s.fe ∧
      (s.setEngine g).table = s.table ∧ (s.setEngine g).sendQ = s.sendQ ∧
      (s.setEngine g).sync = s.sync ∧ (s.setEngine g).port = s.port ∧
      (s.setEngine g).reports = s.reports := by
  simp [State.setEngine]

@[simp] theorem State.setPairMap_frame (s : State) (m : List PairMapEntry) :
    (s.setPairMap m).pending = s.pending ∧ (s.setPairMap m).now = s.now ∧
      (s.setPairMap m).free = s.free ∧ (s.setPairMap m).resetPin = s.resetPin ∧
      (s.setPairMap m).pfailPin = s.pfailPin ∧ (s.setPairMap m).control = s.control ∧
      (s.setPairMap m).line = s.line ∧ (s.setPairMap m).fe = s.fe ∧
      (s.setPairMap m).table = s.table ∧ (s.setPairMap m).sendQ = s.sendQ ∧
      (s.setPairMap m).sync = s.sync ∧ (s.setPairMap m).port = s.port ∧
      (s.setPairMap m).reports = s.reports := by
  simp [State.setPairMap]

@[simp] theorem State.beginOp_frame (s : State) (o : StoreOp) :
    (s.beginOp o).pending = s.pending ∧ (s.beginOp o).now = s.now ∧
      (s.beginOp o).free = s.free ∧ (s.beginOp o).resetPin = s.resetPin ∧
      (s.beginOp o).pfailPin = s.pfailPin ∧ (s.beginOp o).control = s.control ∧
      (s.beginOp o).line = s.line ∧ (s.beginOp o).fe = s.fe ∧
      (s.beginOp o).table = s.table ∧ (s.beginOp o).sendQ = s.sendQ ∧
      (s.beginOp o).sync = s.sync ∧ (s.beginOp o).port = s.port ∧
      (s.beginOp o).reports = s.reports := by
  simp [State.beginOp]

@[simp] theorem State.rewrite_frame (s : State) (o : StoreOp) :
    (s.rewrite o).pending = s.pending ∧ (s.rewrite o).now = s.now ∧
      (s.rewrite o).free = s.free ∧ (s.rewrite o).resetPin = s.resetPin ∧
      (s.rewrite o).pfailPin = s.pfailPin ∧ (s.rewrite o).control = s.control ∧
      (s.rewrite o).line = s.line ∧ (s.rewrite o).fe = s.fe ∧
      (s.rewrite o).table = s.table ∧ (s.rewrite o).sendQ = s.sendQ ∧
      (s.rewrite o).sync = s.sync ∧ (s.rewrite o).port = s.port ∧
      (s.rewrite o).reports = s.reports := by
  simp [State.rewrite]

@[simp] theorem State.freeEngine_frame (s : State) :
    (s.freeEngine).pending = s.pending ∧ (s.freeEngine).now = s.now ∧
      (s.freeEngine).free = s.free ∧ (s.freeEngine).resetPin = s.resetPin ∧
      (s.freeEngine).pfailPin = s.pfailPin ∧ (s.freeEngine).control = s.control ∧
      (s.freeEngine).line = s.line ∧ (s.freeEngine).fe = s.fe ∧
      (s.freeEngine).table = s.table ∧ (s.freeEngine).sendQ = s.sendQ ∧
      (s.freeEngine).sync = s.sync ∧ (s.freeEngine).port = s.port ∧
      (s.freeEngine).reports = s.reports := by
  simp [State.freeEngine]

@[simp] theorem State.cutEngine_frame (s : State) :
    (s.cutEngine).pending = s.pending ∧ (s.cutEngine).now = s.now ∧
      (s.cutEngine).resetPin = s.resetPin ∧ (s.cutEngine).pfailPin = s.pfailPin ∧
      (s.cutEngine).control = s.control ∧ (s.cutEngine).line = s.line ∧
      (s.cutEngine).fe = s.fe ∧ (s.cutEngine).table = s.table ∧
      (s.cutEngine).sendQ = s.sendQ ∧ (s.cutEngine).sync = s.sync ∧
      (s.cutEngine).port = s.port ∧ (s.cutEngine).reports = s.reports := by
  unfold State.cutEngine
  split <;> simp

@[simp] theorem State.abandonOp_frame (s : State) :
    (s.abandonOp).pending = s.pending ∧ (s.abandonOp).now = s.now ∧
      (s.abandonOp).resetPin = s.resetPin ∧ (s.abandonOp).pfailPin = s.pfailPin ∧
      (s.abandonOp).control = s.control ∧ (s.abandonOp).line = s.line ∧
      (s.abandonOp).fe = s.fe ∧ (s.abandonOp).sendQ = s.sendQ ∧
      (s.abandonOp).sync = s.sync ∧ (s.abandonOp).reports = s.reports := by
  unfold State.abandonOp
  (repeat' split) <;> simp <;> (repeat' split) <;> simp

@[simp] theorem State.startCommitOn_frame (s : State) (e : Entry) (n : Nat) :
    (s.startCommitOn e n).pending = s.pending ∧ (s.startCommitOn e n).now = s.now ∧
      (s.startCommitOn e n).free = s.free ∧ (s.startCommitOn e n).resetPin = s.resetPin ∧
      (s.startCommitOn e n).pfailPin = s.pfailPin ∧ (s.startCommitOn e n).control = s.control ∧
      (s.startCommitOn e n).line = s.line ∧ (s.startCommitOn e n).fe = s.fe ∧
      (s.startCommitOn e n).sendQ = s.sendQ ∧ (s.startCommitOn e n).sync = s.sync ∧
      (s.startCommitOn e n).port = s.port ∧ (s.startCommitOn e n).reports = s.reports := by
  unfold State.startCommitOn
  split <;> simp

@[simp] theorem State.dropHead_frame (s : State) (t : Tag) :
    (s.dropHead t).pending = s.pending ∧ (s.dropHead t).now = s.now ∧
      (s.dropHead t).free = s.free ∧ (s.dropHead t).resetPin = s.resetPin ∧
      (s.dropHead t).pfailPin = s.pfailPin ∧ (s.dropHead t).control = s.control ∧
      (s.dropHead t).line = s.line ∧ (s.dropHead t).fe = s.fe ∧
      (s.dropHead t).sendQ = s.sendQ ∧ (s.dropHead t).sync = s.sync ∧
      (s.dropHead t).reports = s.reports := by
  simp [State.dropHead]

@[simp] theorem State.endCommit_frame (s : State) (t : Tag) (c : Bool) (x : StoreState) :
    (s.endCommit t c x).pending = s.pending ∧ (s.endCommit t c x).now = s.now ∧
      (s.endCommit t c x).free = s.free ∧ (s.endCommit t c x).resetPin = s.resetPin ∧
      (s.endCommit t c x).pfailPin = s.pfailPin ∧ (s.endCommit t c x).control = s.control ∧
      (s.endCommit t c x).line = s.line ∧ (s.endCommit t c x).fe = s.fe ∧
      (s.endCommit t c x).sendQ = s.sendQ ∧ (s.endCommit t c x).sync = s.sync ∧
      (s.endCommit t c x).port = s.port ∧ (s.endCommit t c x).reports = s.reports := by
  simp [State.endCommit]

@[simp] theorem State.clearStored_frame (s : State) :
    (s.clearStored).pending = s.pending ∧ (s.clearStored).now = s.now ∧
      (s.clearStored).free = s.free ∧ (s.clearStored).resetPin = s.resetPin ∧
      (s.clearStored).pfailPin = s.pfailPin ∧ (s.clearStored).control = s.control ∧
      (s.clearStored).line = s.line ∧ (s.clearStored).fe = s.fe ∧
      (s.clearStored).sendQ = s.sendQ ∧ (s.clearStored).sync = s.sync ∧
      (s.clearStored).port = s.port ∧ (s.clearStored).reports = s.reports := by
  simp [State.clearStored]

@[simp] theorem State.nextWipe_frame (s : State) (n : Nat) (a : Bool) :
    (s.nextWipe n a).pending = s.pending ∧ (s.nextWipe n a).now = s.now ∧
      (s.nextWipe n a).free = s.free ∧ (s.nextWipe n a).resetPin = s.resetPin ∧
      (s.nextWipe n a).pfailPin = s.pfailPin ∧ (s.nextWipe n a).control = s.control ∧
      (s.nextWipe n a).line = s.line ∧ (s.nextWipe n a).fe = s.fe ∧
      (s.nextWipe n a).table = s.table ∧ (s.nextWipe n a).sendQ = s.sendQ ∧
      (s.nextWipe n a).sync = s.sync ∧ (s.nextWipe n a).reports = s.reports := by
  unfold State.nextWipe
  (repeat' split) <;> simp

end Sys2Proof.Machine
end

