-- ==== Sys2Proof/Laws/LinkOps.lean ====
section
/-! SUPPORT. What each move of the link state leaves as it was. -/

namespace Sys2Proof.Machine

/-! ### Frames -/

@[simp] theorem State.move_frame (s : State) (l : LinkState) (r : Reason) :
    (s.move l r).pending = s.pending ∧ (s.move l r).now = s.now ∧
      (s.move l r).free = s.free ∧ (s.move l r).resetPin = s.resetPin ∧
      (s.move l r).pfailPin = s.pfailPin ∧ (s.move l r).line = s.line ∧
      (s.move l r).fe = s.fe ∧ (s.move l r).table = s.table ∧
      (s.move l r).sendQ = s.sendQ ∧ (s.move l r).sync = s.sync ∧
      (s.move l r).store = s.store ∧ (s.move l r).reports = s.reports := by
  simp [State.move]

@[simp] theorem State.enterJoining_frame (s : State) :
    (s.enterJoining).pending = s.pending ∧ (s.enterJoining).now = s.now ∧
      (s.enterJoining).free = s.free ∧ (s.enterJoining).resetPin = s.resetPin ∧
      (s.enterJoining).pfailPin = s.pfailPin ∧ (s.enterJoining).control = s.control ∧
      (s.enterJoining).line = s.line ∧ (s.enterJoining).table = s.table ∧
      (s.enterJoining).store = s.store ∧ (s.enterJoining).port = s.port := by
  simp [State.enterJoining]

@[simp] theorem State.releaseLines_frame (s : State) :
    (s.releaseLines).pending = s.pending ∧ (s.releaseLines).now = s.now ∧
      (s.releaseLines).free = s.free ∧ (s.releaseLines).resetPin = s.resetPin ∧
      (s.releaseLines).pfailPin = s.pfailPin ∧ (s.releaseLines).control = s.control ∧
      (s.releaseLines).fe = s.fe ∧ (s.releaseLines).table = s.table ∧
      (s.releaseLines).sendQ = s.sendQ ∧ (s.releaseLines).sync = s.sync ∧
      (s.releaseLines).store = s.store ∧ (s.releaseLines).port = s.port ∧
      (s.releaseLines).reports = s.reports := by
  simp [State.releaseLines]

@[simp] theorem State.toQuiesced_frame (s : State) (r : Reason) :
    (s.toQuiesced r).pending = s.pending ∧ (s.toQuiesced r).now = s.now ∧
      (s.toQuiesced r).free = s.free ∧ (s.toQuiesced r).resetPin = s.resetPin ∧
      (s.toQuiesced r).pfailPin = s.pfailPin ∧ (s.toQuiesced r).table = s.table ∧
      (s.toQuiesced r).store = s.store := by
  simp [State.toQuiesced]

@[simp] theorem State.toFaulted_frame (s : State) :
    (s.toFaulted).pending = s.pending ∧ (s.toFaulted).now = s.now ∧
      (s.toFaulted).free = s.free ∧ (s.toFaulted).resetPin = s.resetPin ∧
      (s.toFaulted).pfailPin = s.pfailPin ∧ (s.toFaulted).table = s.table ∧
      (s.toFaulted).store = s.store := by
  simp [State.toFaulted]

@[simp] theorem State.completeQuiesce_frame (s : State) :
    (s.completeQuiesce).pending = s.pending ∧ (s.completeQuiesce).now = s.now ∧
      (s.completeQuiesce).free = s.free ∧ (s.completeQuiesce).resetPin = s.resetPin ∧
      (s.completeQuiesce).pfailPin = s.pfailPin ∧ (s.completeQuiesce).table = s.table ∧
      (s.completeQuiesce).store = s.store := by
  simp [State.completeQuiesce]

@[simp] theorem State.enterStart_frame (s : State) (c : StartCause) :
    (s.enterStart c).pending = s.pending ∧ (s.enterStart c).now = s.now ∧
      (s.enterStart c).free = s.free ∧ (s.enterStart c).resetPin = s.resetPin ∧
      (s.enterStart c).pfailPin = s.pfailPin ∧ (s.enterStart c).table = s.table := by
  simp [State.enterStart]

@[simp] theorem State.discardOp_frame (s : State) :
    (s.discardOp).pending = s.pending ∧ (s.discardOp).now = s.now ∧
      (s.discardOp).free = s.free ∧ (s.discardOp).resetPin = s.resetPin ∧
      (s.discardOp).pfailPin = s.pfailPin ∧ (s.discardOp).control = s.control ∧
      (s.discardOp).line = s.line ∧ (s.discardOp).fe = s.fe ∧
      (s.discardOp).table = s.table ∧ (s.discardOp).sendQ = s.sendQ ∧
      (s.discardOp).sync = s.sync ∧ (s.discardOp).port = s.port ∧
      (s.discardOp).reports = s.reports := by
  unfold State.discardOp
  split <;> simp

@[simp] theorem State.startKeepingOp_frame (s : State) (c : StartCause) :
    (s.startKeepingOp c).pending = s.pending ∧ (s.startKeepingOp c).now = s.now ∧
      (s.startKeepingOp c).free = s.free ∧ (s.startKeepingOp c).resetPin = s.resetPin ∧
      (s.startKeepingOp c).pfailPin = s.pfailPin ∧ (s.startKeepingOp c).table = s.table := by
  simp [State.startKeepingOp]

@[simp] theorem State.startCuttingOp_frame (s : State) :
    (s.startCuttingOp).pending = s.pending ∧ (s.startCuttingOp).now = s.now ∧
      (s.startCuttingOp).resetPin = s.resetPin ∧ (s.startCuttingOp).pfailPin = s.pfailPin := by
  simp [State.startCuttingOp]

@[simp] theorem State.runStart_frame (s : State) :
    (s.runStart).pending = s.pending ∧ (s.runStart).now = s.now ∧
      (s.runStart).free = s.free ∧ (s.runStart).resetPin = s.resetPin ∧
      (s.runStart).pfailPin = s.pfailPin ∧ (s.runStart).line = s.line ∧
      (s.runStart).fe = s.fe ∧ (s.runStart).sendQ = s.sendQ ∧
      (s.runStart).port = s.port ∧ (s.runStart).reports = s.reports := by
  simp [State.runStart]

@[simp] theorem State.leaveStart_frame (s : State) :
    (s.leaveStart).pending = s.pending ∧ (s.leaveStart).now = s.now ∧
      (s.leaveStart).free = s.free ∧ (s.leaveStart).resetPin = s.resetPin ∧
      (s.leaveStart).pfailPin = s.pfailPin ∧ (s.leaveStart).line = s.line ∧
      (s.leaveStart).table = s.table ∧ (s.leaveStart).store = s.store := by
  unfold State.leaveStart
  simp only []
  (repeat' split) <;> simp

@[simp] theorem State.toFrozen_frame (s : State) :
    (s.toFrozen).pending = s.pending ∧ (s.toFrozen).now = s.now ∧
      (s.toFrozen).resetPin = s.resetPin ∧ (s.toFrozen).pfailPin = s.pfailPin := by
  unfold State.toFrozen
  split <;> simp

@[simp] theorem State.leaveFrozen_frame (s : State) :
    (s.leaveFrozen).pending = s.pending ∧ (s.leaveFrozen).now = s.now ∧
      (s.leaveFrozen).free = s.free ∧ (s.leaveFrozen).resetPin = s.resetPin ∧
      (s.leaveFrozen).pfailPin = s.pfailPin ∧ (s.leaveFrozen).line = s.line ∧
      (s.leaveFrozen).table = s.table ∧ (s.leaveFrozen).store = s.store := by
  simp only [State.leaveFrozen]
  split <;> simp

end Sys2Proof.Machine
end

