-- ==== Sys2Proof/Laws/Blocks.lean ====
section
/-! SUPPORT. What each operation of the command families leaves as it was. -/

namespace Sys2Proof.Machine

/-! ### Frames -/

@[simp] theorem State.applyWrite_frame (s : State) (e : Entry) :
    (s.applyWrite e).pending = s.pending ∧ (s.applyWrite e).now = s.now ∧
      (s.applyWrite e).free = s.free ∧ (s.applyWrite e).resetPin = s.resetPin ∧
      (s.applyWrite e).pfailPin = s.pfailPin ∧ (s.applyWrite e).control = s.control ∧
      (s.applyWrite e).line = s.line ∧ (s.applyWrite e).sync = s.sync ∧
      (s.applyWrite e).reports = s.reports := by
  simp [State.applyWrite]

@[simp] theorem State.ownerRead_frame (s : State) (a : List Byte) :
    (State.ownerRead a s).pending = s.pending ∧ (State.ownerRead a s).now = s.now ∧
      (State.ownerRead a s).free = s.free ∧ (State.ownerRead a s).resetPin = s.resetPin ∧
      (State.ownerRead a s).pfailPin = s.pfailPin ∧ (State.ownerRead a s).control = s.control ∧
      (State.ownerRead a s).line = s.line ∧ (State.ownerRead a s).fe = s.fe ∧
      (State.ownerRead a s).table = s.table ∧ (State.ownerRead a s).sendQ = s.sendQ ∧
      (State.ownerRead a s).sync = s.sync ∧ (State.ownerRead a s).store = s.store ∧
      (State.ownerRead a s).reports = s.reports := by
  unfold State.ownerRead
  (repeat' split) <;> simp

@[simp] theorem State.ownerNext_frame (s : State) (a : List Byte) :
    (State.ownerNext a s).pending = s.pending ∧ (State.ownerNext a s).now = s.now ∧
      (State.ownerNext a s).free = s.free ∧ (State.ownerNext a s).resetPin = s.resetPin ∧
      (State.ownerNext a s).pfailPin = s.pfailPin ∧ (State.ownerNext a s).control = s.control ∧
      (State.ownerNext a s).line = s.line ∧ (State.ownerNext a s).fe = s.fe ∧
      (State.ownerNext a s).table = s.table ∧ (State.ownerNext a s).sendQ = s.sendQ ∧
      (State.ownerNext a s).sync = s.sync ∧ (State.ownerNext a s).store = s.store ∧
      (State.ownerNext a s).reports = s.reports := by
  unfold State.ownerNext
  (repeat' split) <;> simp

@[simp] theorem State.ownerWatch_frame (s : State) (a : List Byte) :
    (State.ownerWatch a s).pending = s.pending ∧ (State.ownerWatch a s).now = s.now ∧
      (State.ownerWatch a s).free = s.free ∧ (State.ownerWatch a s).resetPin = s.resetPin ∧
      (State.ownerWatch a s).pfailPin = s.pfailPin ∧ (State.ownerWatch a s).control = s.control ∧
      (State.ownerWatch a s).line = s.line ∧ (State.ownerWatch a s).fe = s.fe ∧
      (State.ownerWatch a s).sendQ = s.sendQ ∧ (State.ownerWatch a s).sync = s.sync ∧
      (State.ownerWatch a s).store = s.store ∧ (State.ownerWatch a s).reports = s.reports := by
  unfold State.ownerWatch
  (repeat' split) <;> simp

@[simp] theorem State.ownerWrite_frame (s : State) (a : List Byte) :
    (State.ownerWrite a s).pending = s.pending ∧ (State.ownerWrite a s).now = s.now ∧
      (State.ownerWrite a s).free = s.free ∧ (State.ownerWrite a s).resetPin = s.resetPin ∧
      (State.ownerWrite a s).pfailPin = s.pfailPin ∧ (State.ownerWrite a s).control = s.control ∧
      (State.ownerWrite a s).line = s.line ∧ (State.ownerWrite a s).sync = s.sync ∧
      (State.ownerWrite a s).reports = s.reports := by
  unfold State.ownerWrite
  (repeat' split) <;> simp

@[simp] theorem State.ownerNotice_frame (s : State) :
    (s.ownerNotice).pending = s.pending ∧ (s.ownerNotice).now = s.now ∧
      (s.ownerNotice).free = s.free ∧ (s.ownerNotice).resetPin = s.resetPin ∧
      (s.ownerNotice).pfailPin = s.pfailPin ∧ (s.ownerNotice).control = s.control ∧
      (s.ownerNotice).line = s.line ∧ (s.ownerNotice).fe = s.fe ∧
      (s.ownerNotice).table = s.table ∧ (s.ownerNotice).sendQ = s.sendQ ∧
      (s.ownerNotice).sync = s.sync ∧ (s.ownerNotice).store = s.store ∧
      (s.ownerNotice).reports = s.reports := by
  unfold State.ownerNotice
  split <;> simp

@[simp] theorem State.ownerQuiesce_frame (s : State) :
    (s.ownerQuiesce).pending = s.pending ∧ (s.ownerQuiesce).now = s.now ∧
      (s.ownerQuiesce).free = s.free ∧ (s.ownerQuiesce).resetPin = s.resetPin ∧
      (s.ownerQuiesce).pfailPin = s.pfailPin ∧ (s.ownerQuiesce).table = s.table ∧
      (s.ownerQuiesce).store = s.store := by
  unfold State.ownerQuiesce
  (repeat' split) <;> simp

@[simp] theorem State.ownerResume_frame (s : State) :
    (s.ownerResume).pending = s.pending ∧ (s.ownerResume).now = s.now ∧
      (s.ownerResume).free = s.free ∧ (s.ownerResume).resetPin = s.resetPin ∧
      (s.ownerResume).pfailPin = s.pfailPin ∧ (s.ownerResume).line = s.line ∧
      (s.ownerResume).table = s.table ∧ (s.ownerResume).store = s.store := by
  unfold State.ownerResume
  (repeat' split) <;> simp

@[simp] theorem State.ownerConfigWrite_frame (s : State) (a : List Byte) :
    (State.ownerConfigWrite a s).pending = s.pending ∧ (State.ownerConfigWrite a s).now = s.now ∧
      (State.ownerConfigWrite a s).free = s.free ∧ (State.ownerConfigWrite a s).resetPin = s.resetPin ∧
      (State.ownerConfigWrite a s).pfailPin = s.pfailPin ∧ (State.ownerConfigWrite a s).control = s.control ∧
      (State.ownerConfigWrite a s).line = s.line ∧ (State.ownerConfigWrite a s).fe = s.fe ∧
      (State.ownerConfigWrite a s).table = s.table ∧ (State.ownerConfigWrite a s).sendQ = s.sendQ ∧
      (State.ownerConfigWrite a s).sync = s.sync ∧ (State.ownerConfigWrite a s).reports = s.reports := by
  unfold State.ownerConfigWrite
  (repeat' split) <;> simp

@[simp] theorem State.ownerWipe_frame (s : State) :
    (s.ownerWipe).pending = s.pending ∧ (s.ownerWipe).now = s.now ∧
      (s.ownerWipe).free = s.free ∧ (s.ownerWipe).resetPin = s.resetPin ∧
      (s.ownerWipe).pfailPin = s.pfailPin ∧ (s.ownerWipe).control = s.control ∧
      (s.ownerWipe).line = s.line ∧ (s.ownerWipe).fe = s.fe ∧
      (s.ownerWipe).table = s.table ∧ (s.ownerWipe).sendQ = s.sendQ ∧
      (s.ownerWipe).sync = s.sync ∧ (s.ownerWipe).reports = s.reports := by
  unfold State.ownerWipe
  split <;> simp

@[simp] theorem State.openFrame_frame (s : State) :
    (s.openFrame).pending = s.pending ∧ (s.openFrame).now = s.now ∧
      (s.openFrame).free = s.free ∧ (s.openFrame).resetPin = s.resetPin ∧
      (s.openFrame).pfailPin = s.pfailPin ∧ (s.openFrame).control = s.control ∧
      (s.openFrame).table = s.table ∧ (s.openFrame).sendQ = s.sendQ ∧
      (s.openFrame).sync = s.sync ∧ (s.openFrame).store = s.store ∧
      (s.openFrame).port = s.port ∧ (s.openFrame).reports = s.reports := by
  simp [State.openFrame]

@[simp] theorem State.endForeign_frame (s : State) :
    (s.endForeign).pending = s.pending ∧ (s.endForeign).now = s.now ∧
      (s.endForeign).free = s.free ∧ (s.endForeign).resetPin = s.resetPin ∧
      (s.endForeign).pfailPin = s.pfailPin ∧ (s.endForeign).control = s.control ∧
      (s.endForeign).line = s.line ∧ (s.endForeign).table = s.table ∧
      (s.endForeign).store = s.store ∧ (s.endForeign).port = s.port ∧
      (s.endForeign).reports = s.reports := by
  simp [State.endForeign]

@[simp] theorem State.fallAsTransmitter_frame (s : State) :
    (s.fallAsTransmitter).pending = s.pending ∧ (s.fallAsTransmitter).now = s.now ∧
      (s.fallAsTransmitter).free = s.free ∧ (s.fallAsTransmitter).resetPin = s.resetPin ∧
      (s.fallAsTransmitter).pfailPin = s.pfailPin ∧ (s.fallAsTransmitter).control = s.control ∧
      (s.fallAsTransmitter).fe = s.fe ∧ (s.fallAsTransmitter).table = s.table ∧
      (s.fallAsTransmitter).sendQ = s.sendQ ∧ (s.fallAsTransmitter).sync = s.sync ∧
      (s.fallAsTransmitter).store = s.store ∧ (s.fallAsTransmitter).port = s.port ∧
      (s.fallAsTransmitter).reports = s.reports := by
  simp [State.fallAsTransmitter]

@[simp] theorem State.discardFrame_frame (s : State) :
    (s.discardFrame).pending = s.pending ∧ (s.discardFrame).now = s.now ∧
      (s.discardFrame).free = s.free ∧ (s.discardFrame).resetPin = s.resetPin ∧
      (s.discardFrame).pfailPin = s.pfailPin ∧ (s.discardFrame).control = s.control ∧
      (s.discardFrame).line = s.line ∧ (s.discardFrame).table = s.table ∧
      (s.discardFrame).sendQ = s.sendQ ∧ (s.discardFrame).sync = s.sync ∧
      (s.discardFrame).store = s.store ∧ (s.discardFrame).port = s.port := by
  simp [State.discardFrame]

@[simp] theorem State.fallAsReceiver_frame (s : State) (n : Nat) :
    (s.fallAsReceiver n).pending = s.pending ∧ (s.fallAsReceiver n).now = s.now ∧
      (s.fallAsReceiver n).free = s.free ∧ (s.fallAsReceiver n).resetPin = s.resetPin ∧
      (s.fallAsReceiver n).pfailPin = s.pfailPin ∧ (s.fallAsReceiver n).control = s.control ∧
      (s.fallAsReceiver n).table = s.table ∧ (s.fallAsReceiver n).sendQ = s.sendQ ∧
      (s.fallAsReceiver n).sync = s.sync ∧ (s.fallAsReceiver n).store = s.store ∧
      (s.fallAsReceiver n).port = s.port ∧ (s.fallAsReceiver n).reports = s.reports := by
  unfold State.fallAsReceiver
  (repeat' split) <;> simp

@[simp] theorem State.fallInFrame_frame (s : State) :
    (s.fallInFrame).pending = s.pending ∧ (s.fallInFrame).now = s.now ∧
      (s.fallInFrame).free = s.free ∧ (s.fallInFrame).resetPin = s.resetPin ∧
      (s.fallInFrame).pfailPin = s.pfailPin ∧ (s.fallInFrame).control = s.control ∧
      (s.fallInFrame).table = s.table ∧ (s.fallInFrame).sendQ = s.sendQ ∧
      (s.fallInFrame).sync = s.sync ∧ (s.fallInFrame).store = s.store ∧
      (s.fallInFrame).port = s.port := by
  unfold State.fallInFrame
  (repeat' split) <;> simp <;> (repeat' split) <;> simp

@[simp] theorem State.adopt_frame (s : State) (h : Option Entry) (f : PublishContent) :
    (s.adopt h f).pending = s.pending ∧ (s.adopt h f).now = s.now ∧
      (s.adopt h f).free = s.free ∧ (s.adopt h f).resetPin = s.resetPin ∧
      (s.adopt h f).pfailPin = s.pfailPin ∧ (s.adopt h f).control = s.control ∧
      (s.adopt h f).line = s.line ∧ (s.adopt h f).fe = s.fe ∧
      (s.adopt h f).sendQ = s.sendQ := by
  unfold State.adopt
  (repeat' split) <;> simp

@[simp] theorem State.publishEffect_frame (s : State) (f : PublishContent) (c : PublishCase) :
    (s.publishEffect f c).pending = s.pending ∧ (s.publishEffect f c).now = s.now ∧
      (s.publishEffect f c).free = s.free ∧ (s.publishEffect f c).resetPin = s.resetPin ∧
      (s.publishEffect f c).pfailPin = s.pfailPin ∧ (s.publishEffect f c).control = s.control ∧
      (s.publishEffect f c).line = s.line := by
  unfold State.publishEffect
  split <;> simp

@[simp] theorem State.decidePublish_frame (s : State) (f : PublishContent) :
    (s.decidePublish f).pending = s.pending ∧ (s.decidePublish f).now = s.now ∧
      (s.decidePublish f).free = s.free ∧ (s.decidePublish f).resetPin = s.resetPin ∧
      (s.decidePublish f).pfailPin = s.pfailPin ∧ (s.decidePublish f).control = s.control := by
  simp [State.decidePublish]

@[simp] theorem State.rosterBeacon_frame (s : State) (f : BeaconContent) :
    (s.rosterBeacon f).pending = s.pending ∧ (s.rosterBeacon f).now = s.now ∧
      (s.rosterBeacon f).free = s.free ∧ (s.rosterBeacon f).resetPin = s.resetPin ∧
      (s.rosterBeacon f).pfailPin = s.pfailPin ∧ (s.rosterBeacon f).control = s.control ∧
      (s.rosterBeacon f).line = s.line ∧ (s.rosterBeacon f).fe = s.fe ∧
      (s.rosterBeacon f).table = s.table ∧ (s.rosterBeacon f).sendQ = s.sendQ ∧
      (s.rosterBeacon f).store = s.store ∧ (s.rosterBeacon f).reports = s.reports := by
  unfold State.rosterBeacon
  (repeat' split) <;> simp

@[simp] theorem State.compareTables_frame (s : State) (f : BeaconContent) :
    (s.compareTables f).pending = s.pending ∧ (s.compareTables f).now = s.now ∧
      (s.compareTables f).free = s.free ∧ (s.compareTables f).resetPin = s.resetPin ∧
      (s.compareTables f).pfailPin = s.pfailPin ∧ (s.compareTables f).control = s.control ∧
      (s.compareTables f).line = s.line ∧ (s.compareTables f).table = s.table ∧
      (s.compareTables f).store = s.store ∧ (s.compareTables f).port = s.port ∧
      (s.compareTables f).reports = s.reports := by
  unfold State.compareTables
  split <;> simp

@[simp] theorem State.rosterHeard_frame (s : State) (i : StationId) :
    (s.rosterHeard i).pending = s.pending ∧ (s.rosterHeard i).now = s.now ∧
      (s.rosterHeard i).free = s.free ∧ (s.rosterHeard i).resetPin = s.resetPin ∧
      (s.rosterHeard i).pfailPin = s.pfailPin ∧ (s.rosterHeard i).control = s.control ∧
      (s.rosterHeard i).line = s.line ∧ (s.rosterHeard i).fe = s.fe ∧
      (s.rosterHeard i).table = s.table ∧ (s.rosterHeard i).sendQ = s.sendQ ∧
      (s.rosterHeard i).store = s.store ∧ (s.rosterHeard i).reports = s.reports := by
  unfold State.rosterHeard
  (repeat' split) <;> simp

@[simp] theorem State.digestTag_frame (s : State) (l : List Listed) (t : Tag) :
    (s.digestTag l t).pending = s.pending ∧ (s.digestTag l t).now = s.now ∧
      (s.digestTag l t).free = s.free ∧ (s.digestTag l t).resetPin = s.resetPin ∧
      (s.digestTag l t).pfailPin = s.pfailPin ∧ (s.digestTag l t).control = s.control ∧
      (s.digestTag l t).line = s.line ∧ (s.digestTag l t).table = s.table ∧
      (s.digestTag l t).store = s.store ∧ (s.digestTag l t).port = s.port ∧
      (s.digestTag l t).reports = s.reports := by
  unfold State.digestTag
  (repeat' split) <;> simp

@[simp] theorem State.pullTag_frame (s : State) (t : Tag) :
    (s.pullTag t).pending = s.pending ∧ (s.pullTag t).now = s.now ∧
      (s.pullTag t).free = s.free ∧ (s.pullTag t).resetPin = s.resetPin ∧
      (s.pullTag t).pfailPin = s.pfailPin ∧ (s.pullTag t).control = s.control ∧
      (s.pullTag t).line = s.line ∧ (s.pullTag t).table = s.table ∧
      (s.pullTag t).store = s.store ∧ (s.pullTag t).port = s.port ∧
      (s.pullTag t).reports = s.reports := by
  unfold State.pullTag
  split <;> simp

@[simp] theorem State.endWaiting_frame (s : State) :
    (s.endWaiting).pending = s.pending ∧ (s.endWaiting).now = s.now ∧
      (s.endWaiting).free = s.free ∧ (s.endWaiting).resetPin = s.resetPin ∧
      (s.endWaiting).pfailPin = s.pfailPin ∧ (s.endWaiting).line = s.line ∧
      (s.endWaiting).fe = s.fe ∧ (s.endWaiting).table = s.table ∧
      (s.endWaiting).sendQ = s.sendQ ∧ (s.endWaiting).sync = s.sync ∧
      (s.endWaiting).store = s.store ∧ (s.endWaiting).reports = s.reports := by
  unfold State.endWaiting
  split <;> simp

@[simp] theorem State.setWatch_frame (s : State) (w : SupplyWatch) :
    (s.setWatch w).pending = s.pending ∧ (s.setWatch w).now = s.now ∧
      (s.setWatch w).free = s.free ∧ (s.setWatch w).resetPin = s.resetPin ∧
      (s.setWatch w).pfailPin = s.pfailPin ∧ (s.setWatch w).line = s.line ∧
      (s.setWatch w).fe = s.fe ∧ (s.setWatch w).table = s.table ∧
      (s.setWatch w).sendQ = s.sendQ ∧ (s.setWatch w).sync = s.sync ∧
      (s.setWatch w).store = s.store ∧ (s.setWatch w).port = s.port ∧
      (s.setWatch w).reports = s.reports := by
  simp [State.setWatch]

@[simp] theorem State.takeSupplyLow_frame (s : State) :
    (s.takeSupplyLow).pending = s.pending ∧ (s.takeSupplyLow).now = s.now ∧
      (s.takeSupplyLow).resetPin = s.resetPin ∧ (s.takeSupplyLow).pfailPin = s.pfailPin := by
  unfold State.takeSupplyLow
  split <;> simp

@[simp] theorem State.modifyPair_frame (s : State) (n : Nat) (f : PairMapEntry → PairMapEntry) :
    (s.modifyPair n f).pending = s.pending ∧ (s.modifyPair n f).now = s.now ∧
      (s.modifyPair n f).free = s.free ∧ (s.modifyPair n f).resetPin = s.resetPin ∧
      (s.modifyPair n f).pfailPin = s.pfailPin ∧ (s.modifyPair n f).control = s.control ∧
      (s.modifyPair n f).line = s.line ∧ (s.modifyPair n f).fe = s.fe ∧
      (s.modifyPair n f).table = s.table ∧ (s.modifyPair n f).sendQ = s.sendQ ∧
      (s.modifyPair n f).sync = s.sync ∧ (s.modifyPair n f).port = s.port ∧
      (s.modifyPair n f).reports = s.reports := by
  simp [State.modifyPair]

@[simp] theorem State.opSucceeds_frame (s : State) (o : StoreOp) :
    (s.opSucceeds o).pending = s.pending ∧ (s.opSucceeds o).now = s.now ∧
      (s.opSucceeds o).free = s.free ∧ (s.opSucceeds o).resetPin = s.resetPin ∧
      (s.opSucceeds o).pfailPin = s.pfailPin ∧ (s.opSucceeds o).line = s.line := by
  unfold State.opSucceeds
  (repeat' split) <;> simp

@[simp] theorem State.opFailsFinally_frame (s : State) (o : StoreOp) :
    (s.opFailsFinally o).pending = s.pending ∧ (s.opFailsFinally o).now = s.now ∧
      (s.opFailsFinally o).free = s.free ∧ (s.opFailsFinally o).resetPin = s.resetPin ∧
      (s.opFailsFinally o).pfailPin = s.pfailPin ∧ (s.opFailsFinally o).line = s.line := by
  unfold State.opFailsFinally
  (repeat' split) <;> simp

@[simp] theorem State.opFails_frame (s : State) (o : StoreOp) :
    (s.opFails o).pending = s.pending ∧ (s.opFails o).now = s.now ∧
      (s.opFails o).free = s.free ∧ (s.opFails o).resetPin = s.resetPin ∧
      (s.opFails o).pfailPin = s.pfailPin ∧ (s.opFails o).line = s.line := by
  unfold State.opFails
  split <;> simp

@[simp] theorem State.compareDigest_frame (s : State) (f : DigestContent) :
    (s.compareDigest f).pending = s.pending ∧ (s.compareDigest f).now = s.now ∧ (s.compareDigest f).free = s.free ∧
      (s.compareDigest f).resetPin = s.resetPin ∧ (s.compareDigest f).pfailPin = s.pfailPin ∧
      (s.compareDigest f).control = s.control ∧ (s.compareDigest f).line = s.line ∧
      (s.compareDigest f).table = s.table ∧ (s.compareDigest f).store = s.store ∧ (s.compareDigest f).port = s.port ∧
      (s.compareDigest f).reports = s.reports := by
  unfold State.compareDigest
  generalize s.digestTags f = tags
  induction tags generalizing s with
  | nil => simp
  | cons tag rest ih =>
    simp only [List.foldl_cons]
    have h := ih (s.digestTag f.listed tag)
    simpa using h

@[simp] theorem State.answerPull_frame (s : State) (f : PullContent) :
    (s.answerPull f).pending = s.pending ∧ (s.answerPull f).now = s.now ∧ (s.answerPull f).free = s.free ∧
      (s.answerPull f).resetPin = s.resetPin ∧ (s.answerPull f).pfailPin = s.pfailPin ∧
      (s.answerPull f).control = s.control ∧ (s.answerPull f).line = s.line ∧
      (s.answerPull f).table = s.table ∧ (s.answerPull f).store = s.store ∧ (s.answerPull f).port = s.port ∧
      (s.answerPull f).reports = s.reports := by
  unfold State.answerPull
  generalize f.tags = tags
  induction tags generalizing s with
  | nil => simp
  | cons tag rest ih =>
    simp only [List.foldl_cons]
    have h := ih (s.pullTag tag)
    simpa using h

/-! ### Requests -/

/-- R169: a request that meets a port in WORKING is dropped with OVERRUN. -/
theorem State.request_working (s : State) (code : Byte) (args : List Byte) (sized gated : Bool) (owner : State → State)
    (h : s.port.state = .working) :
    s.request code args sized gated owner =
      s.setPort { s.port.shiftRequest code args with overrun := true } := by
  simp [State.request, HostPort.shiftRequest, h]

/-- R169: a request that meets a port in NOT_READY is dropped. -/
theorem State.request_notReady (s : State) (code : Byte) (args : List Byte) (sized gated : Bool)
    (owner : State → State) (h : s.port.state = .notReady) :
    s.request code args sized gated owner = s.setPort (s.port.shiftRequest code args) := by
  simp [State.request, HostPort.shiftRequest, h]

/-- R169: the state in which a taken request goes to its owner. -/
def State.taken (s : State) (code : Byte) (args : List Byte) : State :=
  s.setPort { s.port.shiftRequest code args with state := .working, response := none }

/-- R169, R182: a taken request is framed, meets the FROZEN gate, and goes to its owner. -/
theorem State.request_taken (s : State) (code : Byte) (args : List Byte) (sized gated : Bool) (owner : State → State)
    (h : s.port.state = .idle ∨ s.port.state = .ready) :
    s.request code args sized gated owner =
      if !sized then (s.taken code args).answer .badArgument []
      else if gated && s.control.link == .frozen then (s.taken code args).answer .frozen []
      else owner (s.taken code args) := by
  rcases h with h | h <;> simp [State.request, State.taken, HostPort.shiftRequest, h]

@[simp] theorem State.taken_frame (s : State) (code : Byte) (args : List Byte) :
    (s.taken code args).pending = s.pending ∧ (s.taken code args).now = s.now ∧ (s.taken code args).free = s.free ∧
      (s.taken code args).resetPin = s.resetPin ∧ (s.taken code args).pfailPin = s.pfailPin ∧
      (s.taken code args).control = s.control ∧ (s.taken code args).line = s.line ∧ (s.taken code args).fe = s.fe ∧
      (s.taken code args).table = s.table ∧ (s.taken code args).sendQ = s.sendQ ∧
      (s.taken code args).sync = s.sync ∧ (s.taken code args).store = s.store ∧
      (s.taken code args).reports = s.reports := by
  simp [State.taken]

@[simp] theorem State.taken_port (s : State) (code : Byte) (args : List Byte) :
    (s.taken code args).port.state = .working ∧ (s.taken code args).port.response = none ∧
      (s.taken code args).port.notices = s.port.notices ∧ (s.taken code args).port.attn = s.port.attn ∧
      (s.taken code args).port.overrun = s.port.overrun := by
  simp [State.taken, HostPort.shiftRequest]


end Sys2Proof.Machine
end

