-- ==== Sys2Proof/Laws/Operands.lean ====
section
/-! SUPPORT. The layouts of the port: two-byte numbers, tag arguments and flag bytes (R174, R176). -/

namespace Sys2Proof.Machine

/-- R176: two bytes as a number. -/
theorem word16_toNat (hi lo : Byte) : (word16 hi lo).toNat = 256 * hi.toNat + lo.toNat := by
  have h := lo.isLt
  unfold word16
  rw [BitVec.toNat_append, ← Nat.shiftLeft_add_eq_or_of_lt h, Nat.shiftLeft_eq]
  omega

/-- R174: a tag argument of 0x0000 or above 0x0FFE names no record tag. -/
theorem argRecordTag_none (hi lo : Byte) (rest : List Byte)
    (h : 256 * hi.toNat + lo.toNat = 0 ∨ 0xFFF ≤ 256 * hi.toNat + lo.toNat) : argRecordTag (hi :: lo :: rest) = none := by
  have hw := word16_toNat hi lo
  have h4 : (BitVec.extractLsb' 12 4 (word16 hi lo)).toNat = (word16 hi lo).toNat / 4096 % 16 := by
    simp [BitVec.extractLsb'_toNat, Nat.shiftRight_eq_div_pow]
  have h12 : (BitVec.extractLsb' 0 12 (word16 hi lo)).toNat = (word16 hi lo).toNat % 4096 := by
    simp [BitVec.extractLsb'_toNat]
  have hlt := (word16 hi lo).isLt
  unfold argRecordTag argTag16
  simp only [recordTag]
  refine if_neg ?_
  simp only [Bool.and_eq_true, beq_iff_eq, bne_iff_ne, ne_eq, ← BitVec.toNat_inj, h4, h12, hw, BitVec.toNat_ofNat]
  omega

/-- R174: a tag argument of 0x0001 to 0x0FFE names that record tag. -/
theorem argRecordTag_some (hi lo : Byte) (rest : List Byte) (tag : Tag) (h : 256 * hi.toNat + lo.toNat = tag.toNat)
    (h1 : 1 ≤ tag.toNat) (h2 : tag.toNat ≤ 0xFFE) : argRecordTag (hi :: lo :: rest) = some tag := by
  have hw := word16_toNat hi lo
  have ht : BitVec.extractLsb' 0 12 (word16 hi lo) = tag := by
    apply BitVec.eq_of_toNat_eq
    simp only [BitVec.extractLsb'_toNat, hw, h]
    have := tag.isLt
    simp
    omega
  have h4 : BitVec.extractLsb' 12 4 (word16 hi lo) = 0#4 := by
    apply BitVec.eq_of_toNat_eq
    simp only [BitVec.extractLsb'_toNat, hw, h, Nat.shiftRight_eq_div_pow]
    have := tag.isLt
    simp
    omega
  have hn0 : tag ≠ 0#12 := by rintro rfl; simp at h1
  have hnf : tag ≠ 0xFFF#12 := by rintro rfl; simp at h2
  unfold argRecordTag argTag16
  simp [recordTag, ht, h4, hn0, hnf]

/-- R18, R174: NEXT refuses a tag argument above 0x0FFE. -/
theorem argNextTag_none (hi lo : Byte) (rest : List Byte) (h : 0xFFF ≤ 256 * hi.toNat + lo.toNat) :
    argNextTag (hi :: lo :: rest) = none := by
  have hw := word16_toNat hi lo
  have h4 : (BitVec.extractLsb' 12 4 (word16 hi lo)).toNat = (word16 hi lo).toNat / 4096 % 16 := by
    simp [BitVec.extractLsb'_toNat, Nat.shiftRight_eq_div_pow]
  have h12 : (BitVec.extractLsb' 0 12 (word16 hi lo)).toNat = (word16 hi lo).toNat % 4096 := by
    simp [BitVec.extractLsb'_toNat]
  have hlt := (word16 hi lo).isLt
  unfold argNextTag argTag16
  refine if_neg ?_
  simp only [Bool.and_eq_true, beq_iff_eq, bne_iff_ne, ne_eq, ← BitVec.toNat_inj, h4, h12, hw, BitVec.toNat_ofNat]
  omega

/-- R18, R174: NEXT takes a tag argument of 0x0000 to 0x0FFE. -/
theorem argNextTag_some (hi lo : Byte) (rest : List Byte) (h : 256 * hi.toNat + lo.toNat ≤ 0xFFE) :
    ∃ tag, argNextTag (hi :: lo :: rest) = some tag ∧ tag.toNat = 256 * hi.toNat + lo.toNat := by
  have hw := word16_toNat hi lo
  have h4 : (BitVec.extractLsb' 12 4 (word16 hi lo)).toNat = (word16 hi lo).toNat / 4096 % 16 := by
    simp [BitVec.extractLsb'_toNat, Nat.shiftRight_eq_div_pow]
  have h12 : (BitVec.extractLsb' 0 12 (word16 hi lo)).toNat = (word16 hi lo).toNat % 4096 := by
    simp [BitVec.extractLsb'_toNat]
  have hlt := (word16 hi lo).isLt
  unfold argNextTag argTag16
  refine ⟨BitVec.extractLsb' 0 12 (word16 hi lo), ?_, by omega⟩
  refine if_pos ?_
  simp only [Bool.and_eq_true, beq_iff_eq, bne_iff_ne, ne_eq, ← BitVec.toNat_inj, h4, h12, hw, BitVec.toNat_ofNat]
  omega

/-- R176: a tag as two bytes. -/
theorem tagBytes_eq (hi lo : Byte) (tag : Tag) (h : 256 * hi.toNat + lo.toNat = tag.toNat) : tagBytes tag = [hi, lo] := by
  have h0 := tag.isLt
  have h1 := hi.isLt
  have h2 := lo.isLt
  unfold tagBytes bytes16
  congr 1
  · apply BitVec.eq_of_toNat_eq
    simp [BitVec.extractLsb'_toNat, Nat.shiftRight_eq_div_pow]
    omega
  · congr 1
    apply BitVec.eq_of_toNat_eq
    simp [BitVec.extractLsb'_toNat]
    omega

/-- Table 87: a flag byte above 1 is out of range. -/
theorem byteFlag_none (b : Byte) (h : 1 < b.toNat) : byteFlag b = none := by
  have h0 : b ≠ 0#8 := by rintro rfl; simp at h
  have h1 : b ≠ 1#8 := by rintro rfl; simp at h
  simp [byteFlag, h0, h1]

/-- Table 87: a flag byte of 0 or 1. -/
theorem byteFlag_some (b : Byte) (h : b.toNat ≤ 1) : byteFlag b = some (b == 1#8) := by
  rcases (show b.toNat = 0 ∨ b.toNat = 1 by omega) with h | h
  · have : b = 0#8 := BitVec.eq_of_toNat_eq h
    subst this; rfl
  · have : b = 1#8 := BitVec.eq_of_toNat_eq h
    subst this; rfl

/-- R169: a WRITE of the right size. -/
theorem parseWrite_sized (t1 t0 c p n : Byte) (value : List Byte) (h : value.length = n.toNat) :
    parseWrite ([t1, t0, c, p, n] ++ value) =
      some ⟨argRecordTag [t1, t0], (byteFlag c).map (fun b => if b then .owned else .common), byteFlag p, value⟩ := by
  simp [parseWrite, h]

end Sys2Proof.Machine
end

