-- ==== Sys2Proof/Laws/PerInstr.lean ====
section
/-! SUPPORT. For every command: the bytes of its transaction, where it is one (Table 87), name it again. -/

namespace Sys2Proof.Laws.PortBytes

/-- Table 87, R169: the bytes a command's transaction shifts in, if the command is one, are those of no other command. -/
def Statement (i : Instr) : Prop :=
  i.wellFormed = true → ∀ bytes, requestBytes i = some bytes → requestOf bytes = some i

theorem transactionBegin (empty : Bool) : Statement (.transactionBegin empty) := by
  intro _ _ hb
  cases hb

theorem read (args : List Byte) : Statement (.read args) := by
  intro _ _ hb
  cases hb
  rfl

theorem nextTag (args : List Byte) : Statement (.nextTag args) := by
  intro _ _ hb
  cases hb
  rfl

theorem write (args : List Byte) : Statement (.write args) := by
  intro _ _ hb
  cases hb
  rfl

theorem watch (args : List Byte) : Statement (.watch args) := by
  intro _ _ hb
  cases hb
  rfl

theorem status (args : List Byte) : Statement (.status args) := by
  intro _ _ hb
  cases hb
  rfl

theorem peers (args : List Byte) : Statement (.peers args) := by
  intro _ _ hb
  cases hb
  rfl

theorem notice (args : List Byte) : Statement (.notice args) := by
  intro _ _ hb
  cases hb
  rfl

theorem quiesce (args : List Byte) : Statement (.quiesce args) := by
  intro _ _ hb
  cases hb
  rfl

theorem resume (args : List Byte) : Statement (.resume args) := by
  intro _ _ hb
  cases hb
  rfl

theorem configRead (args : List Byte) : Statement (.configRead args) := by
  intro _ _ hb
  cases hb
  rfl

theorem configWrite (args : List Byte) : Statement (.configWrite args) := by
  intro _ _ hb
  cases hb
  rfl

theorem wipe (args : List Byte) : Statement (.wipe args) := by
  intro _ _ hb
  cases hb
  rfl

theorem restart (args : List Byte) : Statement (.restart args) := by
  intro _ _ hb
  cases hb
  rfl

theorem fetch (clocked : Nat) : Statement (.fetch clocked) := by
  intro _ _ hb
  cases hb
  exact congrArg (fun n => some (Instr.fetch n)) (List.length_replicate ..)

theorem quietGap : Statement (.quietGap) := by
  intro _ _ hb
  cases hb

theorem idleLost (line : Line) : Statement (.idleLost line) := by
  intro _ _ hb
  cases hb

theorem rightToOpen : Statement (.rightToOpen) := by
  intro _ _ hb
  cases hb

theorem openingMark : Statement (.openingMark) := by
  intro _ _ hb
  cases hb

theorem arbitrationLoss : Statement (.arbitrationLoss) := by
  intro _ _ hb
  cases hb

theorem lateLoss : Statement (.lateLoss) := by
  intro _ _ hb
  cases hb

theorem lateLossConfirmed : Statement (.lateLossConfirmed) := by
  intro _ _ hb
  cases hb

theorem publishFrame : Statement (.publishFrame) := by
  intro _ _ hb
  cases hb

theorem beaconFrame : Statement (.beaconFrame) := by
  intro _ _ hb
  cases hb

theorem digestFrame : Statement (.digestFrame) := by
  intro _ _ hb
  cases hb

theorem pullFrame : Statement (.pullFrame) := by
  intro _ _ hb
  cases hb

theorem voteOutcome (level : Bool) : Statement (.voteOutcome level) := by
  intro _ _ hb
  cases hb

theorem endMark : Statement (.endMark) := by
  intro _ _ hb
  cases hb

theorem holdLimit : Statement (.holdLimit) := by
  intro _ _ hb
  cases hb

theorem frameBroken : Statement (.frameBroken) := by
  intro _ _ hb
  cases hb

theorem stuckLimit (line : Line) : Statement (.stuckLimit line) := by
  intro _ _ hb
  cases hb

theorem recovery : Statement (.recovery) := by
  intro _ _ hb
  cases hb

theorem duplicateId : Statement (.duplicateId) := by
  intro _ _ hb
  cases hb

theorem busStuck : Statement (.busStuck) := by
  intro _ _ hb
  cases hb

theorem busRecovered : Statement (.busRecovered) := by
  intro _ _ hb
  cases hb

theorem joinComplete : Statement (.joinComplete) := by
  intro _ _ hb
  cases hb

theorem quiesceComplete : Statement (.quiesceComplete) := by
  intro _ _ hb
  cases hb

theorem powerUp (pfail : Bool) : Statement (.powerUp pfail) := by
  intro _ _ hb
  cases hb

theorem resetAssert (lasting : Bool) : Statement (.resetAssert lasting) := by
  intro _ _ hb
  cases hb

theorem resetRelease : Statement (.resetRelease) := by
  intro _ _ hb
  cases hb

theorem startSequence : Statement (.startSequence) := by
  intro _ _ hb
  cases hb

theorem supplyLow (lasting : Bool) : Statement (.supplyLow lasting) := by
  intro _ _ hb
  cases hb

theorem supplyGood (lasting : Bool) : Statement (.supplyGood lasting) := by
  intro _ _ hb
  cases hb

theorem beaconTimer : Statement (.beaconTimer) := by
  intro _ _ hb
  cases hb

theorem silenceTimeout (station : StationId) : Statement (.silenceTimeout station) := by
  intro _ _ hb
  cases hb

theorem listenWindowEnd : Statement (.listenWindowEnd) := by
  intro _ _ hb
  cases hb

theorem settleElapsed : Statement (.settleElapsed) := by
  intro _ _ hb
  cases hb

theorem nextAskDue (tag : Tag) : Statement (.nextAskDue tag) := by
  intro _ _ hb
  cases hb

theorem pullUnanswered (tag : Tag) : Statement (.pullUnanswered tag) := by
  intro _ _ hb
  cases hb

theorem commitStart : Statement (.commitStart) := by
  intro _ _ hb
  cases hb

theorem configWriteStart : Statement (.configWriteStart) := by
  intro _ _ hb
  cases hb

theorem wipeStart : Statement (.wipeStart) := by
  intro _ _ hb
  cases hb

theorem writeDone (current good : Bool) : Statement (.writeDone current good) := by
  intro _ _ hb
  cases hb

theorem writeLimit : Statement (.writeLimit) := by
  intro _ _ hb
  cases hb

theorem bitTaken (level : Bool) : Statement (.bitTaken level) := by
  intro _ _ hb
  cases hb

theorem bckFall : Statement (.bckFall) := by
  intro _ _ hb
  cases hb

theorem clockHalfEnd : Statement (.clockHalfEnd) := by
  intro _ _ hb
  cases hb

theorem notACommandCode (code : Byte) (args : List Byte) : Statement (.notACommandCode code args) := by
  intro hw _ hb
  cases hb
  have h80 : code.toNat ≠ 0x80 := by
    intro h
    have : code = 0x80#8 := BitVec.eq_of_toNat_eq h
    subst this
    simp [Instr.wellFormed, isPortCode] at hw
  have hr : code.toNat = 0 ∨ 13 < code.toNat := by
    simp [Instr.wellFormed, isPortCode] at hw
    omega
  simp only [requestOf]
  generalize code.toNat = n at h80 hr
  split
  all_goals first | omega | rfl

end Sys2Proof.Laws.PortBytes
end

