-- ==== Sys2Proof/Laws/Reads.lean ====
section
/-! SUPPORT. The tests of a state read some blocks only: an update of another block leaves their answers. -/

namespace Sys2Proof.Machine

/-! ### Updates of one block -/

@[simp] theorem State.setLine_onBus (s : State) (x : LineIf) : (s.setLine x).onBus = s.onBus := rfl
@[simp] theorem State.setFe_onBus (s : State) (x : FrameEngine) : (s.setFe x).onBus = s.onBus := rfl
@[simp] theorem State.setTable_onBus (s : State) (x : RecordTable) : (s.setTable x).onBus = s.onBus := rfl
@[simp] theorem State.setSendQ_onBus (s : State) (x : List SendItem) : (s.setSendQ x).onBus = s.onBus := rfl
@[simp] theorem State.setSync_onBus (s : State) (x : SyncUnit) : (s.setSync x).onBus = s.onBus := rfl
@[simp] theorem State.setStore_onBus (s : State) (x : RetainedStore) : (s.setStore x).onBus = s.onBus := rfl
@[simp] theorem State.setPort_onBus (s : State) (x : HostPort) : (s.setPort x).onBus = s.onBus := rfl
@[simp] theorem State.setReports_onBus (s : State) (x : Reports) : (s.setReports x).onBus = s.onBus := rfl
@[simp] theorem State.useFree_onBus (s : State) (x : Nat) : (s.useFree x).onBus = s.onBus := rfl

@[simp] theorem State.setLine_tracks (s : State) (x : LineIf) : (s.setLine x).tracks = s.tracks := rfl
@[simp] theorem State.setFe_tracks (s : State) (x : FrameEngine) : (s.setFe x).tracks = s.tracks := rfl
@[simp] theorem State.setTable_tracks (s : State) (x : RecordTable) : (s.setTable x).tracks = s.tracks := rfl
@[simp] theorem State.setSendQ_tracks (s : State) (x : List SendItem) : (s.setSendQ x).tracks = s.tracks := rfl
@[simp] theorem State.setSync_tracks (s : State) (x : SyncUnit) : (s.setSync x).tracks = s.tracks := rfl
@[simp] theorem State.setStore_tracks (s : State) (x : RetainedStore) : (s.setStore x).tracks = s.tracks := rfl
@[simp] theorem State.setPort_tracks (s : State) (x : HostPort) : (s.setPort x).tracks = s.tracks := rfl
@[simp] theorem State.setReports_tracks (s : State) (x : Reports) : (s.setReports x).tracks = s.tracks := rfl
@[simp] theorem State.useFree_tracks (s : State) (x : Nat) : (s.useFree x).tracks = s.tracks := rfl

@[simp] theorem State.setLine_hasPart (s : State) (x : LineIf) : (s.setLine x).hasPart = s.hasPart := rfl
@[simp] theorem State.setTable_hasPart (s : State) (x : RecordTable) : (s.setTable x).hasPart = s.hasPart := rfl
@[simp] theorem State.setSendQ_hasPart (s : State) (x : List SendItem) : (s.setSendQ x).hasPart = s.hasPart := rfl
@[simp] theorem State.setSync_hasPart (s : State) (x : SyncUnit) : (s.setSync x).hasPart = s.hasPart := rfl
@[simp] theorem State.setStore_hasPart (s : State) (x : RetainedStore) : (s.setStore x).hasPart = s.hasPart := rfl
@[simp] theorem State.setPort_hasPart (s : State) (x : HostPort) : (s.setPort x).hasPart = s.hasPart := rfl
@[simp] theorem State.setReports_hasPart (s : State) (x : Reports) : (s.setReports x).hasPart = s.hasPart := rfl
@[simp] theorem State.useFree_hasPart (s : State) (x : Nat) : (s.useFree x).hasPart = s.hasPart := rfl

@[simp] theorem State.setControl_someDue (s : State) (x : Control) : (s.setControl x).someDue = s.someDue := rfl
@[simp] theorem State.setLine_someDue (s : State) (x : LineIf) : (s.setLine x).someDue = s.someDue := rfl
@[simp] theorem State.setFe_someDue (s : State) (x : FrameEngine) : (s.setFe x).someDue = s.someDue := rfl
@[simp] theorem State.setTable_someDue (s : State) (x : RecordTable) : (s.setTable x).someDue = s.someDue := rfl
@[simp] theorem State.setSendQ_someDue (s : State) (x : List SendItem) : (s.setSendQ x).someDue = s.someDue := rfl
@[simp] theorem State.setStore_someDue (s : State) (x : RetainedStore) : (s.setStore x).someDue = s.someDue := rfl
@[simp] theorem State.setPort_someDue (s : State) (x : HostPort) : (s.setPort x).someDue = s.someDue := rfl
@[simp] theorem State.setReports_someDue (s : State) (x : Reports) : (s.setReports x).someDue = s.someDue := rfl
@[simp] theorem State.useFree_someDue (s : State) (x : Nat) : (s.useFree x).someDue = s.someDue := rfl

@[simp] theorem State.setControl_isWanted (s : State) (x : Control) (t : Tag) :
    (s.setControl x).isWanted t = s.isWanted t := rfl
@[simp] theorem State.setLine_isWanted (s : State) (x : LineIf) (t : Tag) :
    (s.setLine x).isWanted t = s.isWanted t := rfl
@[simp] theorem State.setFe_isWanted (s : State) (x : FrameEngine) (t : Tag) :
    (s.setFe x).isWanted t = s.isWanted t := rfl
@[simp] theorem State.setTable_isWanted (s : State) (x : RecordTable) (t : Tag) :
    (s.setTable x).isWanted t = s.isWanted t := rfl
@[simp] theorem State.setSendQ_isWanted (s : State) (x : List SendItem) (t : Tag) :
    (s.setSendQ x).isWanted t = s.isWanted t := rfl
@[simp] theorem State.setStore_isWanted (s : State) (x : RetainedStore) (t : Tag) :
    (s.setStore x).isWanted t = s.isWanted t := rfl
@[simp] theorem State.setPort_isWanted (s : State) (x : HostPort) (t : Tag) :
    (s.setPort x).isWanted t = s.isWanted t := rfl
@[simp] theorem State.setReports_isWanted (s : State) (x : Reports) (t : Tag) :
    (s.setReports x).isWanted t = s.isWanted t := rfl
@[simp] theorem State.useFree_isWanted (s : State) (x : Nat) (t : Tag) : (s.useFree x).isWanted t = s.isWanted t := rfl

@[simp] theorem State.setControl_pullSelection (s : State) (x : Control) :
    (s.setControl x).pullSelection = s.pullSelection := rfl
@[simp] theorem State.setLine_pullSelection (s : State) (x : LineIf) :
    (s.setLine x).pullSelection = s.pullSelection := rfl
@[simp] theorem State.setFe_pullSelection (s : State) (x : FrameEngine) :
    (s.setFe x).pullSelection = s.pullSelection := rfl
@[simp] theorem State.setTable_pullSelection (s : State) (x : RecordTable) :
    (s.setTable x).pullSelection = s.pullSelection := rfl
@[simp] theorem State.setSendQ_pullSelection (s : State) (x : List SendItem) :
    (s.setSendQ x).pullSelection = s.pullSelection := rfl
@[simp] theorem State.setStore_pullSelection (s : State) (x : RetainedStore) :
    (s.setStore x).pullSelection = s.pullSelection := rfl
@[simp] theorem State.setPort_pullSelection (s : State) (x : HostPort) :
    (s.setPort x).pullSelection = s.pullSelection := rfl
@[simp] theorem State.setReports_pullSelection (s : State) (x : Reports) :
    (s.setReports x).pullSelection = s.pullSelection := rfl
@[simp] theorem State.useFree_pullSelection (s : State) (x : Nat) : (s.useFree x).pullSelection = s.pullSelection := rfl

@[simp] theorem State.setLine_willVote (s : State) (x : LineIf) : (s.setLine x).willVote = s.willVote := rfl
@[simp] theorem State.setTable_willVote (s : State) (x : RecordTable) : (s.setTable x).willVote = s.willVote := rfl
@[simp] theorem State.setSendQ_willVote (s : State) (x : List SendItem) : (s.setSendQ x).willVote = s.willVote := rfl
@[simp] theorem State.setSync_willVote (s : State) (x : SyncUnit) : (s.setSync x).willVote = s.willVote := rfl
@[simp] theorem State.setStore_willVote (s : State) (x : RetainedStore) : (s.setStore x).willVote = s.willVote := rfl
@[simp] theorem State.setPort_willVote (s : State) (x : HostPort) : (s.setPort x).willVote = s.willVote := rfl
@[simp] theorem State.setReports_willVote (s : State) (x : Reports) : (s.setReports x).willVote = s.willVote := rfl
@[simp] theorem State.useFree_willVote (s : State) (x : Nat) : (s.useFree x).willVote = s.willVote := rfl

@[simp] theorem State.setControl_placedBit (s : State) (x : Control) : (s.setControl x).placedBit = s.placedBit := rfl
@[simp] theorem State.setLine_placedBit (s : State) (x : LineIf) : (s.setLine x).placedBit = s.placedBit := rfl
@[simp] theorem State.setTable_placedBit (s : State) (x : RecordTable) : (s.setTable x).placedBit = s.placedBit := rfl
@[simp] theorem State.setSendQ_placedBit (s : State) (x : List SendItem) : (s.setSendQ x).placedBit = s.placedBit := rfl
@[simp] theorem State.setSync_placedBit (s : State) (x : SyncUnit) : (s.setSync x).placedBit = s.placedBit := rfl
@[simp] theorem State.setStore_placedBit (s : State) (x : RetainedStore) : (s.setStore x).placedBit = s.placedBit := rfl
@[simp] theorem State.setPort_placedBit (s : State) (x : HostPort) : (s.setPort x).placedBit = s.placedBit := rfl
@[simp] theorem State.setReports_placedBit (s : State) (x : Reports) : (s.setReports x).placedBit = s.placedBit := rfl
@[simp] theorem State.useFree_placedBit (s : State) (x : Nat) : (s.useFree x).placedBit = s.placedBit := rfl

@[simp] theorem State.setControl_nextLevel (s : State) (x : Control) : (s.setControl x).nextLevel = s.nextLevel := rfl
@[simp] theorem State.setLine_nextLevel (s : State) (x : LineIf) : (s.setLine x).nextLevel = s.nextLevel := rfl
@[simp] theorem State.setTable_nextLevel (s : State) (x : RecordTable) : (s.setTable x).nextLevel = s.nextLevel := rfl
@[simp] theorem State.setSendQ_nextLevel (s : State) (x : List SendItem) : (s.setSendQ x).nextLevel = s.nextLevel := rfl
@[simp] theorem State.setSync_nextLevel (s : State) (x : SyncUnit) : (s.setSync x).nextLevel = s.nextLevel := rfl
@[simp] theorem State.setStore_nextLevel (s : State) (x : RetainedStore) : (s.setStore x).nextLevel = s.nextLevel := rfl
@[simp] theorem State.setPort_nextLevel (s : State) (x : HostPort) : (s.setPort x).nextLevel = s.nextLevel := rfl
@[simp] theorem State.setReports_nextLevel (s : State) (x : Reports) : (s.setReports x).nextLevel = s.nextLevel := rfl
@[simp] theorem State.useFree_nextLevel (s : State) (x : Nat) : (s.useFree x).nextLevel = s.nextLevel := rfl

@[simp] theorem State.setLine_engineTakes (s : State) (x : LineIf) : (s.setLine x).engineTakes = s.engineTakes := rfl
@[simp] theorem State.setFe_engineTakes (s : State) (x : FrameEngine) : (s.setFe x).engineTakes = s.engineTakes := rfl
@[simp] theorem State.setTable_engineTakes (s : State) (x : RecordTable) :
    (s.setTable x).engineTakes = s.engineTakes := rfl
@[simp] theorem State.setSendQ_engineTakes (s : State) (x : List SendItem) :
    (s.setSendQ x).engineTakes = s.engineTakes := rfl
@[simp] theorem State.setSync_engineTakes (s : State) (x : SyncUnit) : (s.setSync x).engineTakes = s.engineTakes := rfl
@[simp] theorem State.setPort_engineTakes (s : State) (x : HostPort) : (s.setPort x).engineTakes = s.engineTakes := rfl
@[simp] theorem State.setReports_engineTakes (s : State) (x : Reports) :
    (s.setReports x).engineTakes = s.engineTakes := rfl
@[simp] theorem State.useFree_engineTakes (s : State) (x : Nat) : (s.useFree x).engineTakes = s.engineTakes := rfl

/-! ### Any two states -/

/-- `onBus` reads Station Control alone. -/
theorem State.onBus_congr {s t : State} (h : t.control = s.control) : t.onBus = s.onBus := by
  simp [State.onBus, h]

/-- `tracks` reads Station Control alone. -/
theorem State.tracks_congr {s t : State} (h : t.control = s.control) : t.tracks = s.tracks := by
  simp [State.tracks, h]

/-- R55: the lines are tracked in JOINING and ACTIVE. -/
theorem State.tracks_of_onBus {s : State} (h : s.onBus = true) : s.tracks = true := by
  unfold State.onBus at h
  unfold State.tracks
  cases hl : s.control.link <;> simp_all [LinkState.onBus]

/-- JOINING and ACTIVE. -/
theorem State.onBus_iff (s : State) : s.onBus = true ↔ s.control.link = .joining ∨ s.control.link = .active := by
  unfold State.onBus
  cases s.control.link <;> simp [LinkState.onBus]

end Sys2Proof.Machine
end

