-- ==== Sys2Proof/Tests/Slice0.lean ====
section
/-! SUPPORT. Tests. Each expected result is worked out from the spec's own tables, figures and worked sequences; and one
witness for each statement with hypotheses: states and operands that meet them, at the edges of their ranges. -/

namespace Sys2Proof.Tests

open Sys2Proof.Machine

-- One test after the other: a kernel evaluation waits for the ones before it, and a thread for each that waits takes memory.
set_option Elab.async false

/-! ### Small states -/

/-- Station 5 at 500 kbit/s, period 10 ms, FREEZE. -/
def cfg5 : ConfigFields := ⟨5#4, 2#2, 10#8, .freeze⟩

/-- Station 5 in a link state, its port IDLE, the bus idle. -/
def station (link : LinkState) : State :=
  { State.reset with
    control := { State.reset.control with link := link, config := some cfg5 }
    line := { LineIf.initial with cond := .idle, seenIdle := true }
    port := { HostPort.initial with state := .idle } }

/-- The state a command leads to. -/
def after (c : Instr) (s : State) : State :=
  match exec c s with
  | .next t => t
  | .fault _ => s
  | .refused _ => s

/-- The states after a list of commands, one by one. -/
def afterAll : List Instr → State → State
  | [], s => s
  | c :: rest, s => afterAll rest (after c s)

def bytes (n : Nat) : List Byte := List.replicate n 0xA5#8

/-- Table 9: station 5 before the sequence of 1.13. -/
def e020 : Entry := ⟨0x020#12, .common, true, none, ⟨3#16, 2#4⟩, bytes 4, false, .clean, false⟩
def e140 : Entry := ⟨0x140#12, .common, false, none, ⟨6#16, 9#4⟩, bytes 2, false, .none, false⟩
def e311 : Entry := ⟨0x311#12, .owned, false, some 5#4, ⟨12#16, 5#4⟩, bytes 8, false, .none, false⟩

def table9 : RecordTable := ((RecordTable.initial.put e140).put e311).put e020

def station5 : State := (station .active).setTable table9

/-- A table of 96 records, tags 0x001 to 0x060. -/
def fullTable : RecordTable :=
  ⟨(List.range 96).map fun n => ⟨BitVec.ofNat 12 (n + 1), .common, false, none, ⟨1#16, 1#4⟩, [], false, .none, false⟩, 0#16⟩

/-- A Send Queue with no place left. -/
def fullQueue : List SendItem := (List.range 16).map fun n => ⟨.publish (BitVec.ofNat 12 (n + 1)) false, false, 0⟩

/-- A receive buffer that has taken the first positions of a frame. -/
def taken (f : Snapshot) (n : Nat) : RxBuffer := (f.wire.take n).foldl RxBuffer.take .initial

/-- A receive buffer that has taken a whole frame to its last check bit. -/
def whole (f : Snapshot) : RxBuffer := f.wire.foldl RxBuffer.take .initial

/-- A whole frame whose last check bit was disturbed. -/
def disturbed (f : Snapshot) : RxBuffer := (f.wire.dropLast ++ [!(f.wire.getLast?.getD false)]).foldl RxBuffer.take .initial

/-- Station 5 as a receiver of a frame, with its buffer and receive machine. -/
def receiver (b : RxBuffer) (rx : RxMachine) : State :=
  { station5 with
    line := { station5.line with cond := .frame, frameOpen := true, othersBck := false, bckSeen := false }
    fe := { FrameEngine.initial with rx := rx, role := .receiver, buf := b } }

/-- Station 5 at the decision point of a frame. -/
def deciding (b : RxBuffer) : State :=
  let s := receiver b .vote
  s.setFe { s.fe with deciding := true }

/-- Station 5 at the decision point of a PUBLISH frame of an entry. -/
def published (e : Entry) : State := deciding (whole (publishSnapshot e))

/-- Station 5 as a transmitter of a frame, `n` positions in, sending the item given. -/
def transmitter (tx : TxMachine) (rx : RxMachine) (f : Snapshot) (n : Nat) (item : SendItem) : State :=
  { receiver (taken f n) rx with
    sendQ := [item]
    fe := { FrameEngine.initial with tx := tx, rx := rx, role := .transmitter, snapshot := some f, buf := taken f n } }

/-- Station 5 with its ACCEPT and RETRY slots taken. -/
def voting (f : Snapshot) (accept retry : Bool) (item : SendItem) : State :=
  let s := transmitter .voting .vote f 200 item
  s.setFe { s.fe with buf := (s.fe.buf.take accept).take retry }

def frame140 : Snapshot := publishSnapshot e140
def item140 : SendItem := ⟨.publish 0x140#12 false, true, 0⟩
def beacon7 (count : BitVec 8) (summary : BitVec 16) : Snapshot := beaconSnapshot 7#4 1#8 10#8 false count summary
def digest7 (listed : List Listed) : Snapshot := digestSnapshotFrame 7#4 0x001#12 0xFFE#12 listed
def peer7 (silent : Bool) : PeerEntry := ⟨7#4, silent, 0#8, 10#8, false, 3#8, 1174#16, if silent then none else some 9⟩

/-! ### WellFormed: ill-formed terms are refused -/

theorem test_wellFormed_refuses_port_codes :
    (Instr.notACommandCode 0x01#8 []).wellFormed = false ∧ (Instr.notACommandCode 0x0D#8 []).wellFormed = false ∧
      (Instr.notACommandCode 0x80#8 []).wellFormed = false ∧ (Instr.notACommandCode 0x00#8 []).wellFormed = true ∧
      (Instr.notACommandCode 0x0E#8 []).wellFormed = true := by decide

theorem test_wellFormed_refuses_no_record_tag :
    (Instr.nextAskDue 0x000#12).wellFormed = false ∧ (Instr.nextAskDue 0xFFF#12).wellFormed = false ∧
      (Instr.pullUnanswered 0x000#12).wellFormed = false ∧ (Instr.pullUnanswered 0xFFF#12).wellFormed = false ∧
      (Instr.pullUnanswered 0xFFE#12).wellFormed = true := by decide

/-! ### Tables and figures -/

/-- Table 87: the command codes. -/
theorem test_request_codes :
    requestOf [0x01#8, 0x01#8, 0x40#8] = some (.read [0x01#8, 0x40#8]) ∧ requestOf [0x0D#8] = some (.restart []) ∧
      requestOf [0x80#8, 0x00#8, 0x00#8] = some (.fetch 2) ∧
      requestOf [0x0E#8] = some (.notACommandCode 0x0E#8 []) ∧ requestOf [] = none := by decide

/-- R63: the nine bytes 0x31 to 0x39 leave the register at 0x29B1. -/
theorem test_check_code :
    checkCode (bytesToBits [0x31#8, 0x32#8, 0x33#8, 0x34#8, 0x35#8, 0x36#8, 0x37#8, 0x38#8, 0x39#8]) = 0x29B1#16 := by
  decide +kernel

/-- 1.4: the summary of the worked example, and after 0x140 is adopted at version 7, origin 5. -/
theorem test_summary : table9.summary = 1174#16 ∧
    (table9.put { e140 with pair := ⟨7#16, 5#4⟩ }).summary = 1171#16 := by decide

/-- R3: the examples below the rule: 7/3 is later than 6/15, and 7/9 than 7/5. -/
theorem test_record_order : OrderPair.later ⟨7#16, 3#4⟩ ⟨6#16, 15#4⟩ = true ∧ OrderPair.later ⟨7#16, 9#4⟩ ⟨7#16, 5#4⟩ = true ∧
    OrderPair.later ⟨7#16, 5#4⟩ ⟨7#16, 9#4⟩ = false ∧ OrderPair.later ⟨7#16, 5#4⟩ ⟨7#16, 5#4⟩ = false := by decide

/-- Table 29, R58: a header written out bit by bit: PUBLISH 00, key 0x140, version 6 and origin 9 as their complements. -/
theorem test_header_bits :
    (Header.bits ⟨.publish, 0x140#12, 6#16, 9#4⟩) =
      [false, false] ++ [false, false, false, true, false, true, false, false, false, false, false, false] ++
        [true, true, true, true, true, true, true, true, true, true, true, true, true, false, false, true] ++
        [false, true, true, false] := by decide

/-- 5.6: the ranks of the two digests are sent as 0xFF5F and 0xF001. -/
theorem test_digest_ranks :
    ((digestSnapshotFrame 2#4 0x001#12 0x0A0#12 []).header.bits.drop 14).take 16 = msbBits 16 0xFF5F#16 ∧
      ((digestSnapshotFrame 9#4 0x001#12 0xFFE#12 []).header.bits.drop 14).take 16 = msbBits 16 0xF001#16 := by decide

/-- 5.2: a PUBLISH frame of two value bytes has 78 positions; the ACCEPT slot is position 75. -/
theorem test_publish_positions : frame140.wire.length + 4 = 78 ∧ frame140.bitAt 75 = true ∧ frame140.bitAt 78 = false := by
  decide

/-- Table 88. -/
theorem test_result_codes :
    ([.ok, .notFound, .notActive, .notOwner, .mismatch, .tableFull, .queueFull, .stale, .badArgument, .notQuiesced,
      .badConfig, .frozen, .storeFailed, .exhausted] : List ResultCode).map ResultCode.byte =
      [0x00#8, 0x01#8, 0x02#8, 0x03#8, 0x04#8, 0x05#8, 0x06#8, 0x07#8, 0x08#8, 0x09#8, 0x0A#8, 0x0B#8, 0x0C#8, 0x0D#8] := by
  decide

/-! ### Commands of the host port -/

/-- 1.13, event 1: WRITE 0x140 makes version 7, origin 5, and answers OK with it. -/
theorem test_write_held :
    let t := after (.write ([0x01#8, 0x40#8, 0#8, 0#8, 2#8] ++ bytes 2)) station5
    t.table.summary = 0x493#16 ∧ t.sendQ = [⟨.publish 0x140#12 false, false, 0⟩] ∧
      t.port.response = some ⟨.ok, [0x00#8, 0x07#8, 0x05#8]⟩ := by decide

/-- 1.13, event 5: WRITE 0x020 naming class OWNED is MISMATCH. -/
theorem test_write_mismatch :
    let t := after (.write ([0x00#8, 0x20#8, 1#8, 1#8, 4#8] ++ bytes 4)) station5
    t.table = station5.table ∧ t.port.response = some ⟨.mismatch, []⟩ := by decide

/-- Table 89: READ of 0x311. -/
theorem test_read : (after (.read [0x03#8, 0x11#8]) station5).port.response =
    some ⟨.ok, [0x03#8, 0x11#8, 1#8, 0#8, 5#8, 0#8, 12#8, 5#8, 0#8, 0#8, 8#8] ++ bytes 8⟩ := by decide

/-- R18: NEXT above 0x020 is 0x140, and above 0x311 nothing. -/
theorem test_next : (after (.nextTag [0x00#8, 0x20#8]) station5).port.response = some ⟨.ok, [0x01#8, 0x40#8]⟩ ∧
    (after (.nextTag [0x03#8, 0x11#8]) station5).port.response = some ⟨.notFound, []⟩ := by decide

/-- R19: WATCH on. -/
theorem test_watch : ((after (.watch [0x01#8, 0x40#8, 1#8]) station5).table.find 0x140#12).map (·.watch) = some true := by
  decide

/-- R168, R170, Table 86: after a request the port is READY (11); a whole fetch makes it IDLE. -/
theorem test_fetch :
    let t := afterAll [.nextTag [0x00#8, 0x20#8], .transactionBegin false, .fetch 5] station5
    t.port.shiftedOut = [0xC0#8, 0x00#8, 0x02#8, 0x01#8, 0x40#8, 0xFF#8] ∧ t.port.state = .idle := by decide

/-- R169: a request that arrives while WORKING sets OVERRUN. -/
theorem test_overrun : (after (.read [0x01#8, 0x40#8]) (station5.setPort { station5.port with state := .working })).port.overrun
    = true := by decide

/-- R180, Table 90: NOTICE of a CHANGED notice: kind 0, fields tag and pair (0x05). -/
theorem test_notice :
    (after (.transactionBegin false) (station5.post (.record .changed 0x140#12 ⟨7#16, 9#4⟩ none))).port.statusByte = 0x50#8 ∧
      (after (.notice []) (station5.post (.record .changed 0x140#12 ⟨7#16, 9#4⟩ none))).port.response =
        some ⟨.ok, [0#8, 0#8, 0x05#8, 0x01#8, 0x40#8, 0#8, 0#8, 7#8, 9#8, 0#8]⟩ := by decide

/-- R171: STATUS in ACTIVE: 14 bytes, the summary last. -/
theorem test_status : ((after (.status []) station5).port.response.map fun r => (r.data.length, r.data.drop 11)) =
    some (14, [3#8, 0x04#8, 0x96#8]) := by decide

/-- R117: PEERS of one present peer. -/
theorem test_peers : (after (.peers []) (station5.setSync { station5.sync with roster := [peer7 true] })).port.response =
    some ⟨.ok, [1#8, 7#8, 1#8, 0#8, 10#8, 3#8, 0x04#8, 0x96#8]⟩ := by decide

/-- R161: QUIESCE in ACTIVE with no frame completes at once. -/
theorem test_quiesce : (after (.quiesce []) station5).control.link = .quiesced ∧
    (after (.quiesce []) station5).port.response = some ⟨.ok, []⟩ := by decide

/-- R162: RESUME needs a configuration. -/
theorem test_resume : (after (.resume []) (station .quiesced)).control.link = .joining ∧
    (after (.resume []) ((station .quiesced).setControl { (station .quiesced).control with config := none })).port.response =
      some ⟨.badConfig, []⟩ := by decide

/-- R155, R173, R147: the configuration written is read back as valid. -/
theorem test_config_write :
    (afterAll [.configWrite [5#8, 2#8, 10#8, 0#8], .configWriteStart, .writeDone true true, .transactionBegin false, .fetch 2,
        .configRead []] (station .quiesced)).port.response = some ⟨.ok, [1#8, 5#8, 2#8, 10#8, 0#8]⟩ := by decide +kernel

/-- R173: WIPE outside QUIESCED. -/
theorem test_wipe_refused : (after (.wipe []) station5).port.response = some ⟨.notQuiesced, []⟩ := by decide

/-- R175: RESTART. -/
theorem test_restart : (after (.restart []) station5).control.link = .start ∧
    (after (.restart []) station5).control.cause = .command := by decide

/-- R169: a code that is none. -/
theorem test_bad_code : (after (.notACommandCode 0x7F#8 []) station5).port.response = some ⟨.badArgument, []⟩ := by decide

/-! ### Commands of the lines and the Frame Engine -/

/-- R44, R51: a quiet gap in HELD. -/
theorem test_quiet_gap :
    (after .quietGap (station5.setLine { station5.line with cond := .held })).line.cond = .idle := by decide

/-- R44: a low on BCK in IDLE. -/
theorem test_idle_lost : (after (.idleLost .bck) station5).line.cond = .frame := by decide

/-- 1.13, event 2: the frame opened for 0x140 carries the held pair. -/
theorem test_right_to_open :
    let s := { station5 with sendQ := [⟨.publish 0x140#12 false, false, 0⟩], fe := { station5.fe with tx := .waiting } }
    let t := after .rightToOpen s
    t.sendQ = [item140] ∧ t.fe.snapshot.bind (·.captured) = some ⟨6#16, 9#4⟩ ∧ t.line.driveBda = true := by decide

/-- R42: a fall that meets the opening mark just driven is the transmitter's own first fall. -/
theorem test_fall_at_own_opening :
    let s := { station5 with sendQ := [⟨.publish 0x140#12 false, false, 0⟩], fe := { station5.fe with tx := .waiting } }
    let t := afterAll [.rightToOpen, .bckFall] s
    t.fe.role = .transmitter ∧ t.line.frameOpen = true ∧ t.line.driveBck = true ∧ t.line.placing.isSome = true := by decide

/-- R46: an opening mark by another station. -/
theorem test_opening_mark : (after .openingMark station5).fe.role = .receiver ∧
    (after .openingMark station5).line.frameOpen = true := by decide

/-- R73: the loss of contention at position 15, the first rank bit. -/
theorem test_arbitration_loss :
    let t := after .arbitrationLoss (transmitter .contending .header frame140 14 item140)
    t.fe.role = .receiver ∧ t.sendQ = [⟨.publish 0x140#12 false, false, 0⟩] ∧ t.fe.tx = .waiting := by decide

/-- R74: a late loss at position 43, the first body bit (1 in 0xA5). -/
theorem test_late_loss :
    let t := after .lateLoss (transmitter .sending .body frame140 42 item140)
    t.fe.tx = .lostLate ∧ t.fe.loss = some 43 := by decide

/-- R76: a confirmed late loss of a BEACON reports DUPLICATE_ID. -/
theorem test_late_loss_confirmed :
    let s := deciding (whole (beacon7 3#8 1174#16))
    (after .lateLossConfirmed (s.setFe { s.fe with tx := .lostLate })).reports.duplicateId = true := by decide +kernel

/-- 1.13, event 6: DELIVERED; the frame carried 6/9 and the entry has moved on, so the pending mark stays set. -/
theorem test_vote_outcome :
    let s := voting frame140 false true { item140 with payload := .publish 0x140#12 true }
    let s := s.setTable (table9.put { e140 with pair := ⟨8#16, 5#4⟩, unsent := true })
    let t := after (.voteOutcome true) s
    t.sendQ = [⟨.publish 0x140#12 false, false, 0⟩] ∧ (t.table.find 0x140#12).map (·.unsent) = some true := by decide

/-- R47: the end mark makes the transmitter owe a yield. R86: one before the outcome counts no attempt. -/
theorem test_end_mark :
    let s := transmitter .voting .vote frame140 74 item140
    let high (x : State) : State := x.setLine x.line.othersHigh
    (after .endMark (high (s.setFe { s.fe with outcomeFixed := true }))).line.yieldOwed = true ∧
      (after .endMark (high s)).sendQ = [⟨.publish 0x140#12 false, false, 0⟩] := by decide

/-- R50, R86: the fourth attempt of 0x140 ends UNDELIVERED. -/
theorem test_hold_limit :
    let t := after .holdLimit (transmitter .sending .body frame140 50 { item140 with attempts := 3 })
    t.line.cond = .held ∧ t.sendQ = [] ∧
      t.port.notices = [⟨.undelivered, some 0x140#12, none, some ⟨6#16, 9#4⟩, some .publish⟩] := by decide

/-- R52: a receiver drops a broken frame. -/
theorem test_frame_broken : (after .frameBroken (receiver (taken frame140 50) .body)).fe.rx = .hunt := by decide

/-- R40, R52: the quiet that made the frame broken, with BDA high, counts toward IDLE: 4 bit times of 2 us. -/
theorem test_frame_broken_was_quiet :
    (after .frameBroken (receiver (taken frame140 50) .body)).line.quiet = 4 * station5.control.bitTime := by decide

/-- R53, R54. -/
theorem test_stuck_and_recovery : (after (.stuckLimit .bda) station5).reports.busStuck = true ∧
    (afterAll [.stuckLimit .bda, .recovery] station5).line.cond = .idle := by decide

/-- R43: a bit of 1 taken. -/
theorem test_bit_taken : (after (.bitTaken true) (receiver (taken frame140 10) .header)).fe.buf.bits.getLast? = some true := by
  decide

/-- R49: a receiver holds BCK at position 35 of a PUBLISH frame. -/
theorem test_bck_fall :
    let s := receiver (taken frame140 34) .body
    (after .bckFall (s.setLine s.line.othersHigh)).line.hold = .lookup := by decide

/-- R42, R39: at the end of the low half the transmitter releases BCK, which stays low while another station pulls it; at the end
of the high half BCK reads low at once. -/
theorem test_clock_half_end :
    let s := transmitter .sending .body frame140 50 item140
    let low := after .clockHalfEnd (s.setLine { s.line with phase := .low, halfTimer := some 4, driveBck := true })
    let high := after .clockHalfEnd (s.setLine { s.line.othersHigh with phase := .high, halfTimer := some 4 })
    low.line.driveBck = false ∧ low.line.bck = false ∧ high.line.driveBck = true ∧ high.line.bck = false := by decide

/-! ### Received frames -/

/-- Chapter 2: 7/9 replaces 6/9. -/
theorem test_publish_adopts :
    let t := after .publishFrame (published { e140 with pair := ⟨7#16, 9#4⟩ })
    t.fe.vote = some .accept ∧ (t.table.find 0x140#12).map (·.pair) = some ⟨7#16, 9#4⟩ := by decide +kernel

/-- R34: an earlier pair is answered ACCEPT with a correction. -/
theorem test_publish_earlier :
    let t := after .publishFrame (published { e140 with pair := ⟨5#16, 9#4⟩ })
    t.fe.vote = some .accept ∧ t.table = table9 ∧ t.sendQ = [⟨.publish 0x140#12 false, false, 0⟩] := by decide +kernel

/-- R107: a new peer. -/
theorem test_beacon : (after .beaconFrame (deciding (whole (beacon7 3#8 1174#16)))).sync.roster =
    [⟨7#4, false, 1#8, 10#8, false, 3#8, 1174#16, some 0⟩] := by decide +kernel

/-- R125: a listed tag that is not held is wanted. -/
theorem test_digest :
    ((after .digestFrame (deciding (whole (digest7 [⟨0x100#12, ⟨1#16, 7#4⟩⟩])))).sync.wanted.map (·.tag)) = [0x100#12] ∧
      ((after .digestFrame (deciding (whole (digest7 [⟨0x100#12, ⟨1#16, 7#4⟩⟩])))).sendQ.map (·.payload)) =
        [.publish 0x020#12 false, .pull, .publish 0x140#12 false, .publish 0x311#12 false] := by decide +kernel

/-- R130: a listed tag that is held is answered. -/
theorem test_pull : ((after .pullFrame (deciding (whole (pullSnapshot 7#4 [0x140#12])))).sendQ.map (·.payload)) =
    [.publish 0x140#12 false] := by decide +kernel

/-! ### Timers, Station Control and the store -/

/-- R113: the beacon goes to the head of the queue. -/
theorem test_beacon_timer :
    ((after .beaconTimer { station5 with sendQ := [⟨.digest, false, 0⟩], sync := { station5.sync with beaconTimer := some 9 } }).sendQ.map
      (·.payload)) = [.beacon, .digest] := by decide

/-- R110. -/
theorem test_silence : ((after (.silenceTimeout 7#4) (station5.setSync { station5.sync with roster := [peer7 false] })).sync.roster.map
    (·.silent)) = [true] := by decide

/-- R120: the listen window's end starts the join's run. -/
theorem test_listen_end :
    let s := station .joining
    let t := after .listenWindowEnd (s.setSync { s.sync with listen := some 9 })
    t.sync.joinDigest = .running ∧ t.sendQ.map (·.payload) = [.digest] := by decide

/-- R131, R132. -/
theorem test_settle :
    let s := station .joining
    (after .settleElapsed (s.setSync { s.sync with joinDigest := .done, settle := .running 9 })).reports.joinComplete = true := by
  decide

/-- R127. -/
theorem test_asks :
    let s := station5.setSync { station5.sync with wanted := [⟨0x100#12, ⟨1#16, 7#4⟩, 0, 0⟩] }
    let u := station5.setSync { station5.sync with wanted := [⟨0x100#12, ⟨1#16, 7#4⟩, 3, 0⟩] }
    (after (.nextAskDue 0x100#12) s).sendQ.map (·.payload) = [.pull] ∧ (after (.pullUnanswered 0x100#12) u).sync.wanted = [] := by
  decide

/-- Table 78: the reports. -/
theorem test_reports : (after .duplicateId station5).control.link = .quiesced ∧ (after .busStuck station5).control.link = .faulted ∧
    (afterAll [.busStuck, .busRecovered] station5).control.link = .joining ∧
    (after .joinComplete (station .joining)).control.link = .active := by decide

/-- R161: a quiesce that waited completes. -/
theorem test_quiesce_complete :
    (after .quiesceComplete (station5.setControl { station5.control with quiesceWaiting := true })).control.link = .quiesced := by
  decide

/-- R157, R167. -/
theorem test_starts : (after (.powerUp true) station5).control.watch = .low ∧
    (after (.resetAssert true) station5).control.cause = .pin ∧
    (afterAll [.resetAssert true, .resetRelease] station5).resetPin = false := by decide

/-- R158, R152: a new part's first start writes incarnation 1 to slot A, and ends in QUIESCED with CONFIG_INVALID. -/
theorem test_first_start :
    let t := afterAll [.startSequence, .writeDone true true] State.reset
    t.control.link = .quiesced ∧ t.port.notices = [⟨.link, none, none, none, some .configInvalid⟩] ∧
      t.store.array.stationA.value? = some 1#8 := by decide

/-- R164, R165. -/
theorem test_freeze : (after (.supplyLow true) station5).control.link = .frozen ∧
    (afterAll [.supplyLow true, .supplyGood true] station5).control.link = .joining := by decide

/-- R163, R157: PFAIL released for less than 100 microseconds restarts the filter, and a start reads the level itself. -/
theorem test_pfail_edges :
    let s := { station5 with pfailPin := true, control := { station5.control with filter := 399 } }
    (after (.supplyGood false) s).control.filter = 0 ∧ (after (.supplyGood false) s).control.link = .active ∧
      (afterAll [.supplyLow false, .resetAssert true] station5).control.watch = .low := by decide

/-- R168: a transaction with no whole byte shifted in. -/
theorem test_empty_transaction :
    let t := afterAll [.transactionBegin false, .transactionBegin true] station5
    t.port.sel = false ∧ t.port.sdo = none ∧ t.port.state = .idle ∧ t.port.overrun = false := by decide

/-- R80: a frame followed in FAULTED is followed on in QUIESCED, and one open at a move out of ACTIVE without part (R89). -/
theorem test_frame_followed_after_quiesce :
    let f := ((receiver .initial .header).setControl { station5.control with link := .faulted })
    (after (.quiesce []) f).fe.rx = .header ∧ (after (.quiesce []) f).control.link = .quiesced ∧
      (after .duplicateId (receiver .initial .header)).fe.rx = .discard := by decide

/-- R142, R145: the first commit of 0x020 goes to slot A of pair 0. -/
theorem test_commit :
    let s := (station5.setTable (table9.put { e020 with storeState := .dirty })).setStore { station5.store with commitQ := [0x020#12] }
    let t := afterAll [.commitStart, .writeDone true true] s
    (t.table.find 0x020#12).map (·.storeState) = some .clean ∧ t.store.pairMap.head? =
      some ⟨some 0x020#12, .valid, .erased, some .a⟩ := by decide

/-- R144, R145: the write limit at the second failure makes the record FAILED. -/
theorem test_write_limit :
    let s := (station5.setTable (table9.put { e020 with storeState := .dirty })).setStore { station5.store with commitQ := [0x020#12] }
    let timed (x : State) : State := x.setEngine { x.store.engine with timer := 48000 }
    let t := after .writeLimit (timed (after .writeLimit (timed (after .commitStart s))))
    (t.table.find 0x020#12).map (·.storeState) = some .failed := by decide

/-- R148: the start of a WIPE makes 0x020 UNSTORED. -/
theorem test_wipe_start :
    ((afterAll [.wipe [], .wipeStart] ((station .quiesced).setTable table9)).table.find 0x020#12).map (·.storeState) = some .unstored := by
  decide

/-- R163: an idle step advances the clock by one quantum. -/
theorem test_idle_step : (match step station5 with | .next t => t.now | .fault _ => 0 | .refused _ => 0) = 1 := by decide

/-- Log entry 3: the table gives no row any bits, so no word spells a command. -/
theorem test_no_word : decodeTableWord 8 0x01 = none ∧ State.reset.withFetchWord 8 1 = State.reset := by decide

/-! ### Witnesses: states and operands that meet the hypotheses of each statement -/

theorem witness_IdleStepAdvancesTheClock : State.reset.pending = [] := by decide

/-- The six invariants and a step: the states after reset with a command waiting. -/
theorem witness_invariants_are_met_and_step :
    let s := { State.reset with pending := [.startSequence] }
    (s.tableInv = true ∧ s.queueInv = true ∧ s.linesInv = true ∧ s.quiescedInv = true ∧ s.portInv = true ∧
      s.commitInv = true) ∧
      ∃ t, step s = .next t := by
  refine ⟨by decide, _, rfl⟩

/-- The same of a station that is a transmitter in ACTIVE, with entries, items, wanted tags and notices. -/
theorem witness_invariants_are_met_on_the_bus :
    let s := transmitter .sending .body frame140 50 item140
    let s := ({ s with pending := [.holdLimit] }.setSync { s.sync with
      roster := [peer7 false], wanted := [⟨0x100#12, ⟨1#16, 7#4⟩, 0, 0⟩] }).post (.peer .peerJoined 7#4)
    let s := after .commitStart ((s.setTable (table9.put { e020 with storeState := .dirty })).setStore
      { s.store with commitQ := [0x020#12] })
    (s.tableInv = true ∧ s.queueInv = true ∧ s.linesInv = true ∧ s.quiescedInv = true ∧ s.portInv = true ∧
      s.commitInv = true) ∧
      ∃ t, step s = .next t := by
  refine ⟨by decide +kernel, _, rfl⟩

theorem witness_HeldRecordsNeverGoBack :
    (∃ t, exec (.write ([0x01#8, 0x40#8, 0#8, 0#8, 2#8] ++ bytes 2)) station5 = .next t) ∧
      station5.table.find 0x140#12 = some e140 := by
  refine ⟨⟨_, rfl⟩, by decide⟩

theorem witness_ConfigurationChangesAtAStartOnly :
    (∃ t, exec .configWriteStart (station .quiesced) = .next t) ∧ State.reset.control.link = .start ∧
      State.reset.startWaitEnded = true ∧ ∃ t, exec .startSequence State.reset = .next t := by
  refine ⟨⟨_, rfl⟩, by decide, by decide, _, rfl⟩

/-- Frames at their greatest lengths. -/
theorem witness_frames : ({ e140 with value := bytes 32 } : Entry).value.length ≤ 32 ∧
    ((List.range 8).map (BitVec.ofNat 12)).length ≤ 8 ∧
    (List.replicate 8 (⟨0x100#12, ⟨1#16, 7#4⟩⟩ : Listed)).length ≤ 8 := by decide

theorem witness_TransactionsShiftOutStatusAndResponse :
    let s := station5.setPort { station5.port with state := .ready, response := some ⟨.ok, bytes 3⟩ }
    s.port.state = .ready ∧ s.port.response = some ⟨.ok, bytes 3⟩ ∧ (bytes 3).length + 2 ≤ 5 ∧
      ¬((bytes 3).length + 2 ≤ 4) ∧ station5.port.state ≠ .ready ∧
      (after (.transactionBegin false) station5).port.sel = true := by decide

theorem witness_RequestsPassThePortState :
    (requestBytes (.status []) = some [0x05#8] ∧ (∀ n, Instr.status [] ≠ .fetch n) ∧ (Instr.status []).wellFormed = true ∧
      requestBytes (.notACommandCode 0x0E#8 []) = some [0x0E#8] ∧ (∀ n, Instr.notACommandCode 0x0E#8 [] ≠ .fetch n) ∧
      (Instr.notACommandCode 0x0E#8 []).wellFormed = true ∧
      (station5.setPort { station5.port with state := .working }).port.state = .working ∧
      (station .start |>.setPort HostPort.initial).port.state = .notReady) ∧
    (station5.takesRequest = true ∧ (1 ≤ (0x0E#8 : Byte).toNat → 13 < (0x0E#8 : Byte).toNat) ∧ (0x0E#8 : Byte) ≠ 0x80#8 ∧
      (1 ≤ (0x00#8 : Byte).toNat → 13 < (0x00#8 : Byte).toNat) ∧ ([0#8] : List Byte).length ≠ 2 ∧ (bytes 2).length ≠ 3 ∧
      (bytes 5).length ≠ 4 ∧ (bytes 5).length ≠ 5 + ((bytes 5).getD 4 0#8).toNat ∧
      Instr.wipe [0#8] ∈ [Instr.status [0#8], .peers [0#8], .notice [0#8], .quiesce [0#8], .resume [0#8],
        .configRead [0#8], .wipe [0#8], .restart [0#8]]) ∧
    ((station .frozen).takesRequest = true ∧ (station .frozen).control.link = .frozen ∧
      Instr.wipe [] ∈ [Instr.read [0#8, 0#8], .notice [], .wipe []] ∧
      ([0#8, 0#8, 0#8, 0#8, 0#8] : List Byte).length = 5 + (([0#8, 0#8, 0#8, 0#8, 0#8] : List Byte).getD 4 0#8).toNat) := by
  refine ⟨⟨rfl, nofun, rfl, rfl, nofun, rfl, rfl, rfl⟩, by decide, by decide⟩

/-- A tag held, a tag absent, and the tags at the edges of the range. -/
theorem witness_ReadNextAndWatchUseTheTable :
    station5.takesRequest = true ∧ station5.control.link ≠ .frozen ∧
      ascendingTags (station5.table.entries.map (·.tag)) = true ∧
      256 * (0x01#8 : Byte).toNat + (0x40#8 : Byte).toNat = (0x140#12 : Tag).toNat ∧
      station5.table.find 0x140#12 = some e140 ∧ station5.table.find 0x001#12 = none ∧ station5.table.find 0xFFE#12 = none ∧
      256 * (0x0F#8 : Byte).toNat + (0xFE#8 : Byte).toNat = (0xFFE#12 : Tag).toNat ∧
      0xFFF ≤ 256 * (0x0F#8 : Byte).toNat + (0xFF#8 : Byte).toNat ∧
      (∀ e ∈ station5.table.entries, e.tag.toNat ≤ 256 * (0x03#8 : Byte).toNat + (0x11#8 : Byte).toNat) ∧
      e020 ∈ station5.table.entries ∧ 256 * (0x00#8 : Byte).toNat + (0x1F#8 : Byte).toNat < e020.tag.toNat ∧
      (∀ x ∈ station5.table.entries, 256 * (0x00#8 : Byte).toNat + (0x1F#8 : Byte).toNat < x.tag.toNat →
        e020.tag.toNat ≤ x.tag.toNat) ∧ 1 < (2#8 : Byte).toNat ∧ (1#8 : Byte).toNat ≤ 1 := by decide

/-- Table 6, one state for each of its checks, and a WRITE that meets them all. -/
theorem witness_RefusedWriteChangesNothing :
    station5.takesRequest = true ∧ station5.control.link ≠ .frozen ∧ (bytes 2).length = (2#8 : Byte).toNat ∧
      (station .joining).table6 0x01#8 0x40#8 0#8 0#8 2#8 = some .notActive ∧
      station5.table6 0x00#8 0x00#8 0#8 0#8 2#8 = some .badArgument ∧
      station5.table6 0x0F#8 0xFF#8 0#8 0#8 2#8 = some .badArgument ∧
      station5.table6 0x01#8 0x40#8 0#8 0#8 33#8 = some .badArgument ∧
      (station5.setTable fullTable).table6 0x01#8 0x40#8 0#8 0#8 2#8 = some .tableFull ∧
      station5.table6 0x01#8 0x40#8 1#8 0#8 2#8 = some .mismatch ∧
      (station5.setTable (table9.put { e311 with owner := some 6#4 })).table6 0x03#8 0x11#8 1#8 0#8 2#8 = some .notOwner ∧
      (station5.setTable (table9.put { e140 with pair := ⟨0xFFFF#16, 5#4⟩ })).table6 0x01#8 0x40#8 0#8 0#8 2#8 =
        some .exhausted ∧
      (station5.setSync { station5.sync with wanted := [⟨0x140#12, ⟨7#16, 7#4⟩, 0, 0⟩] }).table6 0x01#8 0x40#8 0#8 0#8 2#8 =
        some .stale ∧
      (station5.setSendQ fullQueue).table6 0x01#8 0x40#8 0#8 0#8 2#8 = some .queueFull ∧
      station5.table6 0x01#8 0x40#8 0#8 0#8 2#8 = none := by decide +kernel

theorem witness_WriteMakesAVersion :
    station5.takesRequest = true ∧ station5.control.link = .active ∧ (bytes 32).length = (32#8 : Byte).toNat ∧
      (32#8 : Byte).toNat ≤ 32 ∧ 256 * (0x03#8 : Byte).toNat + (0x11#8 : Byte).toNat = (0x311#12 : Tag).toNat ∧
      station5.table.find 0x311#12 = some e311 ∧ (1#8 : Byte) = (if e311.cls = .owned then 1#8 else 0#8) ∧
      (0#8 : Byte) = (if e311.persistent then 1#8 else 0#8) ∧
      (e311.cls = .owned → e311.owner = some station5.control.ownId) ∧ e311.pair.version ≠ 0xFFFF#16 ∧
      station5.sync.wanted.any (fun w => w.tag == 0x311#12) = false ∧ station5.sendQ.length < 16 ∧
      256 * (0x0F#8 : Byte).toNat + (0xFE#8 : Byte).toNat = (0xFFE#12 : Tag).toNat ∧
      station5.table.find 0xFFE#12 = none ∧ station5.table.entries.length < 96 ∧
      station5.sync.wanted.any (fun w => w.tag == 0xFFE#12) = false := by decide

/-- No item queued, one WAITING, one IN_FLIGHT, of a held tag; an absent tag at the end of the range; and a commit of the record
that changes. -/
theorem witness_WriteReachesTheQueues :
    let q (it : SendItem) : State := station5.setSendQ [it]
    let c := (station5.setTable (table9.put { e020 with storeState := .dirty })).beginOp
      (.commit 0x020#12 0 .a e020.image false)
    station5.takesRequest = true ∧ (bytes 2).length = (2#8 : Byte).toNat ∧
      256 * (0x01#8 : Byte).toNat + (0x40#8 : Byte).toNat = (0x140#12 : Tag).toNat ∧
      station5.table6 0x01#8 0x40#8 0#8 0#8 2#8 = none ∧
      findItem station5.sendQ (.publish 0x140#12 false) = none ∧
      (q ⟨.publish 0x140#12 false, false, 0⟩).table6 0x01#8 0x40#8 0#8 0#8 2#8 = none ∧
      findItem (q ⟨.publish 0x140#12 false, false, 0⟩).sendQ (.publish 0x140#12 false) =
        some ⟨.publish 0x140#12 false, false, 0⟩ ∧
      (q item140).table6 0x01#8 0x40#8 0#8 0#8 2#8 = none ∧
      findItem (q item140).sendQ (.publish 0x140#12 false) = some item140 ∧ item140.inFlight = true ∧
      256 * (0x0F#8 : Byte).toNat + (0xFE#8 : Byte).toNat = (0xFFE#12 : Tag).toNat ∧
      station5.table6 0x0F#8 0xFE#8 1#8 1#8 2#8 = none ∧ station5.table.find 0xFFE#12 = none ∧
      c.takesRequest = true ∧ c.table6 0x00#8 0x20#8 0#8 1#8 2#8 = none ∧
      c.store.engine.op = some (.commit 0x020#12 0 .a e020.image false) ∧
      (∀ pair target image changed, station5.store.engine.op ≠ some (.commit 0x140#12 pair target image changed)) := by
  refine ⟨by decide, by decide, by decide, by decide, by decide, by decide, by decide, by decide, by decide, by decide,
    by decide, by decide, by decide, by decide, by decide +kernel, by decide +kernel, nofun⟩

theorem witness_StatusPeersAndConfigReadAnswer :
    station5.takesRequest = true ∧ station5.control.link ≠ .frozen ∧ station5.store.array.config = .erased ∧
      (station5.setArray { station5.store.array with config := .holds cfg5 cfg5.code }).store.array.config =
        .holds cfg5 cfg5.code ∧
      (station5.setArray { station5.store.array with config := .torn cfg5 }).store.array.config = .torn cfg5 := by
  decide +kernel

theorem witness_NoticeRemovesTheOldest :
    station5.takesRequest = true ∧ station5.control.link ≠ .frozen ∧ station5.port.notices = [] ∧
      (station5.post (.peer .peerJoined 7#4)).port.notices = [.peer .peerJoined 7#4] ∧
      (station5.post (.peer .peerJoined 7#4)).takesRequest = true := by decide

theorem witness_QuiesceByLinkState :
    (station .quiesced).takesRequest = true ∧ (station .quiesced).control.link = .quiesced ∧
      (station .faulted).takesRequest = true ∧ (station .faulted).control.link = .faulted ∧
      station5.takesRequest = true ∧ station5.onBus = true ∧ station5.fe.role = .none ∧
      (receiver (taken frame140 10) .discard).takesRequest = true ∧ (receiver (taken frame140 10) .discard).fe.rx = .discard ∧
      (receiver (taken frame140 10) .header).takesRequest = true ∧ (receiver (taken frame140 10) .header).onBus = true ∧
      (receiver (taken frame140 10) .header).fe.role ≠ .none ∧ (receiver (taken frame140 10) .header).fe.rx ≠ .discard := by
  decide

theorem witness_ResumeAndStoreRequestsByLinkState :
    let s := station .quiesced
    let u := s.setControl { s.control with config := none }
    let v := s.setLine { s.line with frameOpen := true, cond := .stuck }
    station5.takesRequest = true ∧ station5.control.link ≠ .frozen ∧ station5.control.link ≠ .quiesced ∧
      u.takesRequest = true ∧ u.control.link = .quiesced ∧ u.control.config = none ∧
      v.takesRequest = true ∧ v.control.link = .quiesced ∧ v.control.config.isSome = true ∧ v.line.frameOpen = true ∧
      v.line.cond = .stuck ∧ s.takesRequest = true ∧ s.control.link = .quiesced ∧
      15 < (16#8 : Byte).toNat ∧ 3 < (4#8 : Byte).toNat ∧ 1 < (2#8 : Byte).toNat ∧
      (15#8 : Byte).toNat ≤ 15 ∧ (3#8 : Byte).toNat ≤ 3 ∧ (1#8 : Byte) ≠ 0#8 ∧ (1#8 : Byte).toNat ≤ 1 := by decide

theorem witness_RestartMovesToStart :
    (station .frozen).takesRequest = true ∧
      (station5.setPort { station5.port with state := .working }).port.state = .working := by decide

theorem witness_IdleComesAndGoes :
    let s := station5.setLine { station5.line with cond := .frame }
    let u := station5.setLine { station5.line with cond := .held }
    s.tracks = true ∧ s.line.frameOpen = false ∧ s.line.cond = .frame ∧ u.line.frameOpen = false ∧ u.line.cond = .held ∧
      s.line.driveBck = false ∧ s.line.driveBda = false ∧ u.tracks = true ∧ u.line.driveBck = false ∧
      u.line.driveBda = false ∧ (s.setLine { s.line with driveBda := true }).line.driveBda = true ∧
      station5.tracks = true ∧ station5.line.cond = .idle := by decide

theorem witness_RightToOpenSendsTheHead :
    let s := station5.setFe { station5.fe with tx := .waiting }
    station5.onBus = true ∧ station5.line.cond = .idle ∧ station5.line.driveBck = false ∧
      station5.line.driveBda = false ∧ station5.fe.tx = .idle ∧ s.onBus = true ∧ s.line.cond = .idle ∧
      s.line.driveBck = false ∧ s.line.driveBda = false ∧ s.fe.tx = .waiting ∧
      (s.setSendQ [⟨.publish 0x140#12 true, false, 3⟩]).sendQ = ⟨.publish 0x140#12 true, false, 3⟩ :: [] ∧
      s.table.find 0x140#12 = some e140 ∧ (s.setSendQ [⟨.beacon, false, 0⟩]).sendQ = ⟨.beacon, false, 0⟩ :: [] ∧
      s.control.config = some cfg5 := by decide

/-- A PULL with eight due entries of nine, one with none due, and a DIGEST with more than eight entries. -/
theorem witness_RightToOpenFormsDigestAndPull :
    let due := (List.range 9).map fun n => (⟨BitVec.ofNat 12 (n + 1), ⟨1#16, 7#4⟩, 2, 0⟩ : WantedEntry)
    let s := station5.setFe { station5.fe with tx := .waiting }
    let tags := ((due.filter fun w => decide (w.asks < 3) && decide (w.nextAsk ≤ s.now)).take 8).map (·.tag)
    s.onBus = true ∧ s.line.cond = .idle ∧ s.line.driveBck = false ∧ s.line.driveBda = false ∧ s.fe.tx = .waiting ∧ tags ≠ [] ∧ tags.length = 8 ∧
      (∀ w ∈ [(⟨0x100#12, ⟨1#16, 7#4⟩, 3, 0⟩ : WantedEntry), ⟨0x101#12, ⟨1#16, 7#4⟩, 0, 1⟩],
        ¬(w.asks < 3 ∧ w.nextAsk ≤ s.now)) ∧
      8 < (fullTable.entries.filter fun e => decide (s.sync.cursor.toNat ≤ e.tag.toNat)).length := by decide +kernel

/-- A mark that is taken, a fall that passes unremarked, two that are lows, edges under a low BCK; and ends of a frame, the
transmitter's own among them. -/
theorem witness_MarksOpenAndEndAFrame :
    let never := station5.setLine { station5.line with seenIdle := false }
    let stuck := station5.setLine { station5.line with cond := .stuck }
    let high (x : State) : State := x.setLine x.line.othersHigh
    let rested := high (receiver (taken frame140 50) .body)
    let closing := high (voting frame140 false true item140)
    let fixed := (closing.setFe { closing.fe with outcomeFixed := true }).setLine
      { closing.line with driveBda := true, placing := some true }
    let cut := high (transmitter .contending .header frame140 20 { item140 with attempts := 3 })
    let lost := high (transmitter .lostLate .body frame140 50 { item140 with attempts := 2 })
    let low := receiver (taken frame140 50) .body
    (station5.tracks = true ∧ station5.line.bck = true ∧ station5.line.frameOpen = false ∧ station5.line.seenIdle = true ∧
      station5.line.cond ≠ .stuck ∧ never.line.bck = true ∧ never.line.seenIdle = false ∧ stuck.line.bck = true ∧
      stuck.line.cond = .stuck ∧ rested.line.bck = true ∧ rested.line.frameOpen = true) ∧
    (low.tracks = true ∧ low.line.bck = false ∧ low.line.cond ≠ .idle) ∧
    (rested.tracks = true ∧ rested.line.placing = none ∧ rested.line.driveBda = false ∧ rested.fe.tx = .idle ∧
      fixed.tracks = true ∧ fixed.line.frameOpen = true ∧ fixed.line.bck = true ∧ fixed.line.placing = some true ∧
      fixed.fe.tx = .voting ∧ fixed.fe.outcomeFixed = true ∧ cut.tracks = true ∧ cut.line.frameOpen = true ∧
      cut.line.bck = true ∧ cut.line.placing = none ∧ cut.line.driveBda = false ∧ cut.fe.tx = .contending ∧
      cut.sendQ = { item140 with attempts := 3 } :: [] ∧ lost.tracks = true ∧ lost.line.frameOpen = true ∧
      lost.line.bck = true ∧ lost.line.placing = none ∧ lost.line.driveBda = false ∧ lost.fe.tx = .lostLate ∧
      lost.fe.buf.good ≠ some true ∧ lost.sendQ = { item140 with attempts := 2 } :: [] ∧ item140.inFlight = true ∧
      2 + 1 < 4) := by decide +kernel

theorem witness_AbandonedFramesCountAnAttempt :
    let rested := receiver (taken frame140 50) .body
    let third := transmitter .sending .body frame140 50 { item140 with attempts := 2 }
    let fourth := transmitter .contending .header frame140 20 { item140 with attempts := 3 }
    let digest := transmitter .voting .vote (digest7 []) 58 ⟨.digest, true, 3⟩
    let lost := (transmitter .lostLate .body frame140 50 item140).setFe
      { (transmitter .lostLate .body frame140 50 item140).fe with role := .receiver }
    (rested.tracks = true ∧ rested.line.frameOpen = true ∧ rested.fe.tx = .idle ∧ rested.fe.role ≠ .transmitter ∧
      third.tracks = true ∧ third.line.frameOpen = true ∧ third.fe.tx = .sending ∧
      third.sendQ = { item140 with attempts := 2 } :: [] ∧ fourth.fe.tx = .contending ∧
      fourth.sendQ = { item140 with attempts := 3 } :: [] ∧ item140.payload = .publish 0x140#12 false ∧
      digest.fe.tx = .voting ∧ digest.fe.outcomeFixed = false ∧ digest.sendQ = ⟨.digest, true, 3⟩ :: []) ∧
    (lost.tracks = true ∧ lost.line.frameOpen = true ∧ lost.fe.role ≠ .transmitter ∧ lost.fe.tx = .lostLate ∧
      lost.fe.buf.good ≠ some true ∧ lost.sendQ = item140 :: [] ∧ item140.attempts + 1 < 4 ∧ lost.line.bda = true) := by
  decide +kernel

/-- A station that sends nothing; an attempt counted in the frame, in VOTING and at the opening mark not taken; a fourth; and
an outcome that stands. -/
theorem witness_StuckAndRecoveredLines :
    let third := transmitter .sending .body frame140 50 { item140 with attempts := 2 }
    let fourth := transmitter .contending .header frame140 20 { item140 with attempts := 3 }
    let vote := transmitter .voting .vote (digest7 []) 58 ⟨.digest, true, 3⟩
    let fixed := vote.setFe { vote.fe with outcomeFixed := true }
    let opening := after .rightToOpen ((station5.setFe { station5.fe with tx := .waiting }).setSendQ [⟨.beacon, false, 0⟩])
    let stuck := station5.setLine { station5.line with cond := .stuck }
    (fourth.tracks = true ∧ fourth.line.cond ≠ .stuck ∧ fourth.fe.tx = .contending ∧
      fourth.sendQ = { item140 with attempts := 3 } :: [] ∧ item140.payload = .publish 0x140#12 false ∧
      vote.fe.tx = .voting ∧ vote.fe.outcomeFixed = false ∧ vote.sendQ = ⟨.digest, true, 3⟩ :: [] ∧
      fixed.fe.tx = .voting ∧ fixed.fe.outcomeFixed = true ∧ opening.tracks = true ∧ opening.line.frameOpen = false ∧
      opening.line.cond = .idle ∧ opening.fe.tx = .contending ∧ opening.sendQ = ⟨.beacon, true, 0⟩ :: []) ∧
    station5.tracks = true ∧ station5.line.cond ≠ .stuck ∧ station5.fe.tx = .idle ∧ third.tracks = true ∧
      third.line.cond ≠ .stuck ∧ third.line.frameOpen = true ∧ third.fe.tx = .sending ∧
      third.sendQ = { item140 with attempts := 2 } :: [] ∧ stuck.tracks = true ∧ stuck.line.cond = .stuck := by decide +kernel

/-- The last position a transmitter clocks is its closing bit, 62 + B; and a fall beyond it. -/
theorem witness_TransmitterClocksTheLine :
    let s := transmitter .voting .vote frame140 74 item140
    let s := s.setFe { s.fe with buf := { s.fe.buf with bits := s.fe.buf.bits ++ [false, true, true] } }
    let s := s.setLine s.line.othersHigh
    let u := s.setLine { s.line with halfTimer := some 4, phase := .low }
    let v := s.setFe { s.fe with buf := { s.fe.buf with bits := s.fe.buf.bits ++ [false] } }
    s.tracks = true ∧ s.line.frameOpen = true ∧ s.fe.role = .transmitter ∧ s.fe.snapshot = some frame140 ∧
      s.line.bck = true ∧ s.fe.rx ≠ .discard ∧ s.fe.rx ≠ .hunt ∧ s.fe.buf.bits.length + 1 ≤ 62 + frame140.body.length ∧
      s.fe.buf.bodyLen = some 16 ∧ s.fe.buf.bits.length + 1 ≤ 62 + 16 ∧ u.line.halfTimer.isSome = true ∧
      u.line.phase = .low ∧ v.tracks = true ∧ v.line.frameOpen = true ∧ v.fe.role = .transmitter ∧
      v.fe.snapshot = some frame140 ∧ v.line.bck = true ∧ v.fe.rx ≠ .discard ∧ v.fe.rx ≠ .hunt ∧
      v.fe.buf.bodyLen = some 16 ∧ 62 + 16 < v.fe.buf.bits.length + 1 := by decide +kernel

/-- Positions without a hold: the first of the header, one of a PUBLISH body, a slot without a vote, and the slots of a RETRY and
of a REJECT. -/
theorem witness_ReceiverHoldsNothingElsewhere :
    let high (x : State) : State := x.setLine x.line.othersHigh
    let header := high (receiver .initial .header)
    let body := high (receiver (taken frame140 50) .body)
    let slot := high (receiver ((whole frame140).take false) .vote)
    let retry := slot.setFe { slot.fe with vote := some .retry }
    let reject := slot.setFe { slot.fe with vote := some .reject, buf := slot.fe.buf.take true }
    (header.onBus = true ∧ header.line.frameOpen = true ∧ header.fe.role = .receiver ∧ header.line.bck = true ∧
      header.fe.rx = .header ∧ header.fe.buf.bits.length ≠ 34 ∧ header.fe.buf.bodyLen = none) ∧
    (body.fe.rx = .body ∧ body.fe.buf.bits.length ≠ 34 ∧ body.fe.buf.bodyLen = some 16 ∧
      body.fe.buf.bits.length + 1 ≤ 62 + 16 ∧ body.fe.buf.bits.length + 1 ≠ 59 + 16) ∧
    (slot.fe.rx = .vote ∧ slot.fe.vote = none ∧ retry.fe.vote = some .retry ∧ retry.fe.buf.bits.length + 1 = 60 + 16 ∧
      reject.fe.vote = some .reject ∧ reject.fe.buf.bits.length + 1 = 61 + 16 ∧ reject.fe.buf.bodyLen = some 16) := by
  decide +kernel

/-- The lookup point, the decision points of a PUBLISH, of a DIGEST, of one of the own ID and of a confirmed late loss, a position
without a hold, DISCARD, and a fall beyond the closing bit. -/
theorem witness_ReceiverHoldsAtItsPoints :
    let high (x : State) : State := x.setLine x.line.othersHigh
    let lookup := high (receiver (taken frame140 34) .body)
    let decide_ := high (receiver (whole frame140) .vote)
    let other := high (receiver (whole (digest7 [])) .vote)
    let own := high (receiver (whole (digestSnapshotFrame 5#4 0x001#12 0xFFE#12 [])) .vote)
    let lost := other.setFe { other.fe with tx := .lostLate }
    let digest := high (receiver (taken (digest7 []) 57) .check)
    let part := high (receiver (taken frame140 10) .discard)
    let beyond := other.setFe { other.fe with
      buf := { other.fe.buf with bits := other.fe.buf.bits ++ [false, true, true, false] } }
    (lookup.onBus = true ∧ lookup.line.frameOpen = true ∧ lookup.fe.role = .receiver ∧ lookup.line.bck = true ∧
      lookup.fe.rx ≠ .discard ∧ lookup.fe.rx ≠ .hunt ∧ lookup.fe.buf.header = some ⟨.publish, 0x140#12, 6#16, 9#4⟩ ∧
      lookup.fe.buf.bits.length = 34 ∧ lookup.fe.buf.bodyLen = none) ∧
    (decide_.line.bck = true ∧ decide_.fe.buf.content =
        some (.publish ⟨0x140#12, .common, false, ⟨6#16, 9#4⟩, 2, bytes 2⟩) ∧
      decide_.fe.buf.bodyLen = some 16 ∧ decide_.fe.buf.bits.length = 58 + 16) ∧
    (other.line.bck = true ∧ other.fe.buf.content = some (.digest ⟨7#4, 0x001#12, 0x0FFE#16, 0#4, []⟩) ∧
      (FrameContent.digest ⟨7#4, 0x001#12, 0x0FFE#16, 0#4, []⟩).sender? = some 7#4 ∧ other.fe.buf.bodyLen = some 0 ∧
      other.fe.buf.bits.length = 58 + 0 ∧ other.fe.buf.good = some true ∧
      own.fe.buf.content = some (.digest ⟨5#4, 0x001#12, 0x0FFE#16, 0#4, []⟩) ∧ own.fe.buf.bits.length = 58 + 0 ∧
      lost.fe.tx = .lostLate ∧ lost.fe.buf.good = some true) ∧
    (digest.line.bck = true ∧ digest.fe.buf.header = some ⟨.digest, 0x001#12, 0x0FFE#16, 7#4⟩ ∧
      digest.fe.buf.bodyLen = some 0 ∧ digest.fe.buf.bits.length + 1 < 59 + 0) ∧
    (part.onBus = true ∧ part.line.bck = true ∧ part.fe.role = .receiver ∧ part.fe.rx = .discard) ∧
    (beyond.fe.rx ≠ .discard ∧ beyond.fe.rx ≠ .hunt ∧ beyond.fe.buf.bodyLen = some 0 ∧
      62 + 0 < beyond.fe.buf.bits.length + 1) := by decide +kernel

/-- A receiver in the header; transmitters at positions 34, 43 and 74; a voter at its slot; a receiver without a vote; a
transmitter in its slots and at its closing bit; and DISCARD. -/
theorem witness_BitIsTakenAtTheRise :
    let s := receiver (taken frame140 10) .header
    let u := transmitter .sending .body frame140 42 item140
    let h := transmitter .contending .header frame140 33 item140
    let c := transmitter .sending .check frame140 73 item140
    let v := receiver (whole frame140) .vote
    let w := v.setFe { v.fe with vote := some .accept }
    let slots := transmitter .voting .vote frame140 200 item140
    let closing := slots.setFe { slots.fe with
      buf := { slots.fe.buf with bits := slots.fe.buf.bits ++ [false, true, true] } }
    let part := receiver (taken frame140 10) .discard
    (s.tracks = true ∧ s.line.frameOpen = true ∧ s.line.hold ≠ .decision ∧ s.fe.rx = .header ∧ s.fe.role ≠ .transmitter ∧
      s.fe.tx = .idle ∧ s.line.placing = none ∧ s.line.driveBda = false) ∧
    (u.tracks = true ∧ u.line.frameOpen = true ∧ u.line.hold ≠ .decision ∧ u.fe.rx = .body ∧ u.fe.role = .transmitter ∧
      u.fe.tx = .sending ∧ u.fe.snapshot = some frame140 ∧ u.fe.buf.bits.length + 1 ≤ 62 + frame140.body.length ∧
      frame140.bitAt (u.fe.buf.bits.length + 1) = true ∧ frame140.bitAt 44 = false) ∧
    (h.fe.tx = .contending ∧ h.fe.rx = .header ∧ h.fe.buf.bits.length + 1 = 34 ∧ c.fe.tx = .sending ∧ c.fe.rx = .check ∧
      c.fe.buf.bodyLen = some 16 ∧ c.fe.buf.bits.length + 1 = 58 + 16) ∧
    (v.fe.rx = .vote ∧ v.fe.buf.bodyLen = some 16 ∧ 58 + 16 ≤ v.fe.buf.bits.length ∧ v.fe.vote = none ∧
      v.fe.role = .receiver ∧ v.fe.tx = .idle ∧ v.line.placing = none ∧ v.line.driveBda = false ∧
      w.fe.vote = some .accept ∧ w.fe.buf.bits.length + 1 = 59 + 16) ∧
    (slots.fe.rx = .vote ∧ slots.fe.role = .transmitter ∧ slots.fe.tx = .voting ∧ slots.fe.snapshot = some frame140 ∧
      frame140.body.length = 16 ∧ slots.fe.buf.bodyLen = some 16 ∧ slots.fe.buf.bits.length + 1 < 61 + 16 ∧
      closing.fe.rx = .vote ∧ closing.fe.buf.bits.length + 1 = 62 + 16) ∧
    (part.tracks = true ∧ part.line.frameOpen = true ∧ part.fe.rx = .discard ∧ part.fe.role ≠ .transmitter ∧
      part.fe.tx = .idle) := by decide +kernel

/-- A late loss in the body, and at the last check bit. -/
theorem witness_LossesMakeAReceiver :
    let a := transmitter .contending .header frame140 14 item140
    let b := transmitter .sending .body frame140 42 item140
    let f : Snapshot := publishSnapshot { e140 with value := [0x01#8] }
    let g : Snapshot := publishSnapshot { e140 with value := [0x00#8] }
    let last := if f.bitAt 66 then f else g
    let c := transmitter .sending .check last 65 item140
    (a.tracks = true ∧ a.line.frameOpen = true ∧ a.line.hold ≠ .decision ∧ a.fe.tx = .contending ∧
      a.fe.role = .transmitter ∧ a.fe.rx = .header ∧ a.fe.snapshot = some frame140 ∧
      frame140.bitAt (a.fe.buf.bits.length + 1) = true ∧ a.sendQ = item140 :: [] ∧ item140.inFlight = true) ∧
    (b.tracks = true ∧ b.line.frameOpen = true ∧ b.line.hold ≠ .decision ∧ b.fe.tx = .sending ∧
      b.fe.role = .transmitter ∧ b.fe.rx = .body ∧ b.fe.snapshot = some frame140 ∧
      frame140.bitAt (b.fe.buf.bits.length + 1) = true ∧ b.fe.buf.bodyLen = some 16 ∧ 42 ≤ b.fe.buf.bits.length ∧
      b.fe.buf.bits.length + 1 < 58 + 16) ∧
    (c.fe.tx = .sending ∧ c.fe.rx = .check ∧ c.fe.buf.bodyLen = some 8 ∧ c.fe.buf.bits.length + 1 = 58 + 8 ∧
      last.bitAt (c.fe.buf.bits.length + 1) = true ∧ (after .lateLoss c).fe.buf.good = some false ∧
      c.sendQ = item140 :: [] ∧ item140.attempts + 1 < 4) := by decide +kernel

/-- A DIGEST; and PUBLISH frames by case 9, by case 5 (the persistent bit, position 36) and by case 10 of Table 11. -/
theorem witness_ConfirmedLateLossIsReported :
    let s := deciding (whole (digest7 []))
    let s := s.setFe { s.fe with tx := .lostLate }
    let lost (e : Entry) (p : Nat) : State :=
      { published e with fe := { (published e).fe with tx := .lostLate, loss := some p },
                         sendQ := [{ item140 with payload := .publish 0x140#12 true }] }
    let u := lost { e140 with value := bytes 1 } 37
    let a := lost { e140 with persistent := true } 36
    let l := (lost { e140 with value := bytes 1 } 37).setTable (table9.put { e140 with pair := ⟨8#16, 5#4⟩ })
    (s.onBus = true ∧ s.fe.tx = .lostLate ∧ s.fe.buf.good = some true ∧
      s.fe.buf.content = some (.digest ⟨7#4, 0x001#12, 0x0FFE#16, 0#4, []⟩)) ∧
    (u.onBus = true ∧ u.fe.tx = .lostLate ∧ u.fe.buf.good = some true ∧
      u.fe.buf.content = some (.publish ⟨0x140#12, .common, false, ⟨6#16, 9#4⟩, 1, bytes 1⟩) ∧ u.fe.deciding = true ∧
      (⟨0x140#12, .common, false, ⟨6#16, 9#4⟩, 1, bytes 1⟩ : PublishContent).malformed = false ∧
      u.table.find 0x140#12 = some e140 ∧ e140.value ≠ bytes 1 ∧ u.sendQ = ⟨.publish 0x140#12 true, true, 0⟩ :: [] ∧
      u.fe.loss = some 37) ∧
    (a.fe.tx = .lostLate ∧ a.fe.buf.good = some true ∧
      a.fe.buf.content = some (.publish ⟨0x140#12, .common, true, ⟨6#16, 9#4⟩, 2, bytes 2⟩) ∧ a.fe.loss = some 36 ∧
      a.table.find 0x140#12 = some e140 ∧ e140.persistent ≠ true) ∧
    (l.fe.buf.good = some true ∧
      l.fe.buf.content = some (.publish ⟨0x140#12, .common, false, ⟨6#16, 9#4⟩, 1, bytes 1⟩) ∧
      l.table.find 0x140#12 = some { e140 with pair := ⟨8#16, 5#4⟩ } ∧
      OrderPair.later ⟨8#16, 5#4⟩ ⟨6#16, 9#4⟩ = true) := by decide +kernel

/-- The third and the fourth attempt, and votes that end the item. -/
theorem witness_VoteOutcomeIsFixedAndApplied :
    let s := voting frame140 true false { item140 with attempts := 2 }
    let u := voting frame140 true false { item140 with attempts := 3 }
    let v := voting frame140 false true item140
    (s.onBus = true ∧ s.line.frameOpen = true ∧ s.line.hold ≠ .decision ∧ s.fe.tx = .voting ∧ s.fe.outcomeFixed = false ∧
      s.fe.role = .transmitter ∧ s.fe.rx = .vote ∧ s.fe.snapshot = some frame140 ∧ s.fe.buf.bodyLen = some 16 ∧
      frame140.body.length = 16 ∧ s.fe.buf.bits.length = 60 + 16 ∧ s.sendQ = ⟨.publish 0x140#12 false, true, 2⟩ :: [] ∧
      s.fe.buf.bits.getD (59 + 16) true = false ∧ 2 + 1 < 4) ∧
    (u.sendQ = ⟨.publish 0x140#12 false, true, 3⟩ :: [] ∧ u.fe.buf.bits.getD (59 + 16) true = false ∧ 4 ≤ 3 + 1) ∧
    (v.fe.buf.bits.length = 60 + 16 ∧ v.fe.buf.bits.getD (59 + 16) true = true) := by decide +kernel

/-- The third and the fourth attempt, and a run that goes on, of a DIGEST; a PULL with a further entry due; and a BEACON. -/
theorem witness_VoteOutcomeOfTheSyncUnitsItems :
    let pull := pullSnapshot 5#4 [0x100#12]
    let beacon := beaconSnapshot 5#4 1#8 10#8 false 3#8 1174#16
    let s := voting (digest7 []) true false ⟨.digest, true, 2⟩
    let z := voting (digest7 []) true false ⟨.digest, true, 3⟩
    let u := voting (digest7 []) false true ⟨.digest, true, 3⟩
    let u := u.setSync { u.sync with runActive := true, digestQueued := true, rangeEnd := some 0x0A0#12 }
    let p := voting pull true false ⟨.pull, true, 3⟩
    let p := p.setSync { p.sync with
      wanted := [⟨0x100#12, ⟨1#16, 7#4⟩, 1, 40000⟩, ⟨0x101#12, ⟨1#16, 7#4⟩, 0, 0⟩], pullList := [0x100#12] }
    let b := voting beacon false true ⟨.beacon, true, 0⟩
    (s.onBus = true ∧ s.line.frameOpen = true ∧ s.line.hold ≠ .decision ∧ s.fe.tx = .voting ∧ s.fe.outcomeFixed = false ∧
      s.fe.role = .transmitter ∧ s.fe.rx = .vote ∧ s.fe.snapshot = some (digest7 []) ∧ s.fe.buf.bodyLen = some 0 ∧
      (digest7 []).body.length = 0 ∧ s.fe.buf.bits.length = 60 + 0 ∧ s.sendQ = ⟨.digest, true, 2⟩ :: [] ∧
      s.fe.buf.bits.getD (59 + 0) true = false ∧ z.sendQ = ⟨.digest, true, 3⟩ :: [] ∧
      z.fe.buf.bits.getD (59 + 0) true = false ∧ 4 ≤ 3 + 1) ∧
    (u.fe.tx = .voting ∧ u.fe.buf.bits.length = 60 + 0 ∧ u.fe.buf.bits.getD (59 + 0) true = true ∧
      u.sync.rangeEnd = some 0x0A0#12 ∧ (0x0A0#12 : Tag) ≠ 0xFFE#12 ∧ u.sync.runActive = true ∧
      (findItem ([] : List SendItem) .digest).isNone = true) ∧
    (p.onBus = true ∧ p.fe.tx = .voting ∧ p.fe.rx = .vote ∧ p.fe.snapshot = some pull ∧ p.fe.buf.bodyLen = some 16 ∧
      pull.body.length = 16 ∧ p.fe.buf.bits.length = 60 + 16 ∧ p.sendQ = ⟨.pull, true, 3⟩ :: [] ∧
      p.fe.buf.bits.getD (59 + 16) true = false ∧
      p.sync.wanted.any (fun w => decide (w.asks < 3) && decide (w.nextAsk ≤ p.now)) = true) ∧
    (b.onBus = true ∧ b.fe.tx = .voting ∧ b.fe.rx = .vote ∧ b.fe.snapshot = some beacon ∧ b.fe.buf.bodyLen = some 24 ∧
      beacon.body.length = 24 ∧ b.fe.buf.bits.length = 60 + 24 ∧ b.sendQ = ⟨.beacon, true, 0⟩ :: [] ∧
      b.fe.buf.bits.getD (59 + 24) true = true) := by decide +kernel

/-- The content of the frames of 0x140 that the next witnesses send. -/
def content140 (version : BitVec 16) (value : List Byte) : PublishContent :=
  ⟨0x140#12, .common, false, ⟨version, 9#4⟩, value.length, value⟩

theorem witness_PublishVoteFollowsTheCaseTable :
    let s := published e140
    s.onBus = true ∧ s.fe.role = .receiver ∧ s.fe.deciding = true ∧ s.fe.tx ≠ .lostLate ∧
      s.fe.buf.content = some (.publish (content140 6#16 (bytes 2))) := by decide +kernel

/-- A bad check code, version 0, a full table, other attributes, another owner, another value. -/
theorem witness_RefusedPublishChangesNoEntry :
    let bad := deciding (disturbed frame140)
    let zero := published { e140 with pair := ⟨0#16, 9#4⟩ }
    let full := (published e140).setTable fullTable
    let attr := published { e140 with persistent := true }
    let own := published { e311 with pair := ⟨13#16, 6#4⟩ }
    let other := published { e140 with value := bytes 1 }
    (bad.fe.buf.content = some (.publish (content140 6#16 (bytes 2))) ∧ bad.fe.buf.good ≠ some true) ∧
    (zero.fe.buf.content = some (.publish (content140 0#16 (bytes 2))) ∧ zero.fe.buf.good = some true) ∧
    (full.onBus = true ∧ full.fe.role = .receiver ∧ full.fe.deciding = true ∧ full.fe.tx ≠ .lostLate ∧
      full.fe.buf.good = some true ∧ (content140 6#16 (bytes 2)).malformed = false ∧ full.table.find 0x140#12 = none ∧
      96 ≤ full.table.entries.length) ∧
    (attr.fe.buf.content = some (.publish { content140 6#16 (bytes 2) with persistent := true }) ∧
      attr.table.find 0x140#12 = some e140) ∧
    (own.fe.buf.content = some (.publish ⟨0x311#12, .owned, false, ⟨13#16, 6#4⟩, 8, bytes 8⟩) ∧
      own.table.find 0x311#12 = some e311 ∧ e311.owner ≠ some 6#4) ∧
    (other.fe.buf.content = some (.publish (content140 6#16 (bytes 1))) ∧ other.fe.buf.good = some true ∧
      e140.value ≠ bytes 1) := by decide +kernel

/-- A record not held, with the table one short of full, in JOINING and wanted; and a held one, pending and watched, that the
engine commits. -/
theorem witness_AdoptionTakesTheFrame :
    let s := (published e140).setTable ⟨fullTable.entries.take 95, 0#16⟩
    let held := { e140 with unsent := true, watch := true }
    let u := (published { e140 with pair := ⟨7#16, 9#4⟩ }).setTable (table9.put held)
    let c := u.beginOp (.commit 0x140#12 0 .a held.image false)
    let j := s.setControl { s.control with link := .joining }
    let w : WantedEntry := ⟨0x140#12, ⟨6#16, 9#4⟩, 1, 0⟩
    (s.onBus = true ∧ s.fe.role = .receiver ∧ s.fe.deciding = true ∧ s.fe.tx ≠ .lostLate ∧
      s.fe.buf.content = some (.publish (content140 6#16 (bytes 2))) ∧ s.fe.buf.good = some true ∧
      (content140 6#16 (bytes 2)).malformed = false ∧ s.table.find 0x140#12 = none ∧ s.table.entries.length < 96) ∧
    (u.fe.buf.content = some (.publish (content140 7#16 (bytes 2))) ∧ u.fe.buf.good = some true ∧
      u.table.find 0x140#12 = some held ∧ held.cls = .common ∧
      OrderPair.later ⟨7#16, 9#4⟩ held.pair = true) ∧
    (c.store.engine.op = some (.commit 0x140#12 0 .a held.image false) ∧ c.onBus = true ∧ u.store.engine.op = none ∧
      j.onBus = true ∧ j.control.link = .joining ∧ [w].any (fun w => w.tag == 0x140#12 && !(w.pair.later ⟨6#16, 9#4⟩)) =
        true) := by decide +kernel

theorem witness_EqualOrEarlierPublishKeepsTheEntry :
    let s := published e140
    let u := published { e140 with pair := ⟨5#16, 9#4⟩ }
    (s.onBus = true ∧ s.fe.role = .receiver ∧ s.fe.deciding = true ∧ s.fe.tx ≠ .lostLate ∧
      s.fe.buf.content = some (.publish (content140 6#16 (bytes 2))) ∧ s.fe.buf.good = some true ∧
      (content140 6#16 (bytes 2)).malformed = false ∧ s.table.find 0x140#12 = some e140 ∧
      OrderPair.later ⟨6#16, 9#4⟩ e140.pair = false ∧ bytes 2 = e140.value) ∧
    (u.fe.buf.content = some (.publish (content140 5#16 (bytes 2))) ∧ u.fe.buf.good = some true ∧
      OrderPair.later ⟨5#16, 9#4⟩ e140.pair = false ∧ (⟨5#16, 9#4⟩ : OrderPair) ≠ e140.pair) := by decide +kernel

/-- A new peer with room and with the roster full, a known silent peer; and figures that differ, with an idle digest run, with
one active, and of a peer that the roster holds. -/
theorem witness_BeaconUpdatesTheRosterAndCompares :
    let s := deciding (whole (beacon7 3#8 1174#16))
    let many := s.setSync { s.sync with roster := (List.range 15).map fun n =>
      { peer7 false with station := if n < 7 then BitVec.ofNat 4 n else BitVec.ofNat 4 (n + 1) } }
    let known := s.setSync { s.sync with roster := [peer7 true] }
    let differs := deciding (whole (beacon7 4#8 1174#16))
    let active := differs.setSync { differs.sync with runActive := true, roster := [peer7 true] }
    (s.onBus = true ∧ s.fe.role = .receiver ∧ s.fe.deciding = true ∧ s.fe.tx ≠ .lostLate ∧ s.fe.buf.good = some true ∧
      s.fe.buf.content = some (.beacon ⟨7#4, 0xFFF#12, 1#8, 10#8, false, 0#7, 3#8, 1174#16⟩) ∧
      (⟨7#4, 0xFFF#12, 1#8, 10#8, false, 0#7, 3#8, 1174#16⟩ : BeaconContent).wellFormed = true ∧ 7#4 ≠ s.control.ownId ∧
      3#8 = BitVec.ofNat 8 s.table.entries.length ∧ 1174#16 = s.table.summary ∧ s.sync.roster.length < 15 ∧
      (∀ p ∈ many.sync.roster, p.station ≠ 7#4) ∧ 15 ≤ many.sync.roster.length ∧
      known.sync.peer 7#4 = some (peer7 true)) ∧
    (differs.fe.buf.content = some (.beacon ⟨7#4, 0xFFF#12, 1#8, 10#8, false, 0#7, 4#8, 1174#16⟩) ∧
      differs.fe.buf.good = some true ∧ 4#8 ≠ BitVec.ofNat 8 differs.table.entries.length ∧
      differs.sync.runActive = false ∧ differs.sync.digestQueued = false ∧
      differs.control.ownId.toNat < (7#4 : StationId).toNat ∧ (findItem differs.sendQ .digest).isNone = true ∧
      differs.sendQ.length < 16 ∧ active.onBus = true ∧ active.sync.runActive = true ∧
      active.sync.peer 7#4 = some (peer7 true)) := by decide +kernel

theorem witness_UnusableFramesAreHandedToNoBlock :
    let bad := deciding (disturbed (digest7 []))
    let c := FrameContent.digest ⟨7#4, 0x001#12, 0x0FFE#16, 0#4, []⟩
    let mal := deciding (whole (pullSnapshot 7#4 []))
    let own := deciding (whole (digestSnapshotFrame 5#4 0x001#12 0xFFE#12 []))
    (bad.onBus = true ∧ bad.fe.role = .receiver ∧ bad.fe.deciding = true ∧ bad.fe.tx ≠ .lostLate ∧
      bad.fe.buf.content = some c ∧ c.sender? = some 7#4 ∧ bad.fe.buf.good ≠ some true) ∧
    (mal.fe.buf.content = some (.pull ⟨7#4, 0#12, 0#16, 0#4, []⟩) ∧ mal.fe.buf.good = some true ∧
      (FrameContent.pull ⟨7#4, 0#12, 0#16, 0#4, []⟩).wellFormed = false) ∧
    (own.fe.buf.content = some (.digest ⟨5#4, 0x001#12, 0x0FFE#16, 0#4, []⟩) ∧ own.fe.buf.good = some true ∧
      (FrameContent.digest ⟨5#4, 0x001#12, 0x0FFE#16, 0#4, []⟩).wellFormed = true ∧ 5#4 = own.control.ownId) := by
  decide +kernel

/-- A DIGEST that lists one held tag with a later pair, one with an earlier pair and one that is not held. -/
theorem witness_DigestEntersWantedTags_AskedRecordsAreQueued :
    let listed : List Listed := [⟨0x020#12, ⟨4#16, 7#4⟩⟩, ⟨0x100#12, ⟨1#16, 7#4⟩⟩, ⟨0x140#12, ⟨5#16, 9#4⟩⟩]
    let f : DigestContent := ⟨7#4, 0x001#12, 0x0FFE#16, 0#4, listed⟩
    let s := deciding (whole (digest7 listed))
    let p := deciding (whole (pullSnapshot 7#4 [0x100#12, 0x140#12]))
    let q : PullContent := ⟨7#4, 0x100#12, 0#16, 0#4, [0x0100#16, 0x0140#16]⟩
    (s.onBus = true ∧ s.fe.role = .receiver ∧ s.fe.deciding = true ∧ s.fe.tx ≠ .lostLate ∧
      s.fe.buf.content = some (.digest f) ∧ s.fe.buf.good = some true ∧ f.wellFormed = true ∧ f.sender ≠ s.control.ownId ∧
      s.sync.wanted.length + f.listed.length ≤ 16 ∧ s.table.find 0x100#12 = none ∧ s.table.find 0x020#12 = some e020 ∧
      OrderPair.later ⟨4#16, 7#4⟩ e020.pair = true ∧ s.sendQ.length + s.table.entries.length < 16 ∧
      s.table.find 0x140#12 = some e140 ∧ OrderPair.later e140.pair ⟨5#16, 9#4⟩ = true ∧
      f.start.toNat ≤ (0x311#12 : Tag).toNat ∧ (0x311#12 : Tag).toNat ≤ f.stop.toNat ∧
      (∀ l ∈ f.listed, l.tag ≠ 0x311#12)) ∧
    (p.fe.buf.content = some (.pull q) ∧ p.fe.buf.good = some true ∧ q.wellFormed = true ∧ q.sender ≠ p.control.ownId ∧
      p.sendQ.length + q.tags.length ≤ 16 ∧ 0x140#12 ∈ q.tags ∧ (p.table.find 0x140#12).isSome = true) := by decide +kernel

/-- A DIGEST of a silent peer, and a PULL of a sender the roster does not hold. -/
theorem witness_DigestOrPullBringsItsSenderBack :
    let s := deciding (whole (digest7 []))
    let s := s.setSync { s.sync with roster := [peer7 true] }
    let f : DigestContent := ⟨7#4, 0x001#12, 0x0FFE#16, 0#4, []⟩
    let p := deciding (whole (pullSnapshot 7#4 [0x140#12]))
    let q : PullContent := ⟨7#4, 0x140#12, 0#16, 0#4, [0x0140#16]⟩
    (s.onBus = true ∧ s.fe.role = .receiver ∧ s.fe.deciding = true ∧ s.fe.tx ≠ .lostLate ∧ s.fe.buf.good = some true ∧
      7#4 ≠ s.control.ownId ∧ s.fe.buf.content = some (.digest f) ∧ f.wellFormed = true ∧
      s.sync.peer 7#4 = some (peer7 true) ∧ (peer7 true).silent = true) ∧
    (p.fe.buf.good = some true ∧ p.fe.buf.content = some (.pull q) ∧ q.wellFormed = true ∧ q.sender = 7#4 ∧
      p.sync.peer 7#4 = none) := by decide +kernel

theorem witness_BeaconAndSilenceTimers :
    let s := station5.setSync { station5.sync with
      beaconTimer := some 40000, wanted := [⟨0x100#12, ⟨1#16, 7#4⟩, 3, 0⟩, ⟨0x101#12, ⟨1#16, 7#4⟩, 0, 1⟩] }
    let u := station5.setSync { station5.sync with roster := [peer7 false] }
    let v := station5.setSync { station5.sync with roster := [{ peer7 false with timer := some 0 }] }
    s.onBus = true ∧ s.sync.beaconTimer = some 40000 ∧ s.sync.runActive = false ∧
      (∀ w ∈ s.sync.wanted, ¬(w.asks < 3 ∧ w.nextAsk ≤ s.now)) ∧ u.onBus = true ∧
      u.sync.peer 7#4 = some (peer7 false) ∧ (peer7 false).silent = false ∧ (peer7 false).timer = some 9 ∧
      v.sync.peer 7#4 = some { peer7 false with timer := some 0 } := by decide

theorem witness_JoinTimersCompleteTheJoin :
    let s := station .joining
    let a := s.setSync { s.sync with listen := some 80000 }
    let b := s.setSync { s.sync with joinDigest := .done, settle := .running 40000 }
    a.control.link = .joining ∧ a.sync.listen = some 80000 ∧ a.sync.runActive = false ∧ b.control.link = .joining ∧
      b.sync.settle = .running 40000 ∧ b.sync.joinDigest = .done ∧ b.sync.runActive = false ∧ b.sync.wanted = [] ∧
      b.sync.joinReported = false := by decide

theorem witness_WantedEntryIsAskedOrExpires :
    let w2 : WantedEntry := ⟨0x100#12, ⟨1#16, 7#4⟩, 2, 0⟩
    let w3 : WantedEntry := ⟨0x100#12, ⟨1#16, 7#4⟩, 3, 0⟩
    station5.onBus = true ∧ [w2].find? (fun x => x.tag == 0x100#12) = some w2 ∧ w2.asks < 3 ∧
      [w3].find? (fun x => x.tag == 0x100#12) = some w3 ∧ 3 ≤ w3.asks ∧
      w2.nextAsk < station5.now + station5.control.ownPeriod := by decide

theorem witness_DuplicateAndQuiesceCompleteMoveToQuiesced :
    let s := station5.setControl { station5.control with quiesceWaiting := true }
    let s := s.setPort { s.port with state := .working }
    s.onBus = true ∧ s.control.quiesceWaiting = true ∧ s.port.state = .working ∧ s.control.link = .active ∧
      (station .faulted).onBus = false := by decide

theorem witness_LineAndJoinReportsMoveTheLink :
    let p := transmitter .sending .body (pullSnapshot 5#4 [0x100#12]) 50 ⟨.pull, true, 1⟩
    station5.onBus = true ∧ station5.fe.tx = .idle ∧ p.onBus = true ∧ p.fe.tx = .sending ∧
      p.sendQ = ⟨.pull, true, 1⟩ :: [] ∧ (station .faulted).control.link = .faulted ∧
      (station .joining).control.link = .joining ∧ (station .quiesced).onBus = false ∧
      station5.control.link ≠ .faulted ∧ station5.control.link ≠ .joining := by decide +kernel

theorem witness_StartSequenceReadsTheStore :
    let s := State.reset.setArray { State.reset.store.array with config := .holds cfg5 cfg5.code }
    s.control.link = .start ∧ s.resetPin = false ∧ s.store.engine.op = none ∧ s.control.cause = .power ∧
      s.control.watch = .good ∧ s.store.array.config = .holds cfg5 cfg5.code ∧ cfg5.period ≠ 0#8 ∧
      State.reset.store.array.config = .erased := by decide +kernel

/-- Pairs with two VALID copies, equal and not, with one and with none; a slot cut short; and station copies. -/
theorem witness_StartLoadsTheNewestCopies :
    let i := e020.image
    let raw : SlotImage := { i with pair := ⟨4#16, 1#4⟩ }
    let j : SlotImage := { raw with check := raw.code }
    let m := State.reset.store.array
    let s := State.reset.setArray { m with
      pairs := ⟨.copy i, .copy j⟩ :: ⟨.copy i, .copy i⟩ :: ⟨.torn, .copy j⟩ :: m.pairs.drop 3
      stationA := .copy 255#8 (stationCode 255#8)
      stationB := .copy 0#8 (stationCode 0#8) }
    s.control.link = .start ∧ s.resetPin = false ∧ s.store.engine.op = none ∧ s.control.watch = .good ∧
      i.check = i.code ∧ j.check = j.code ∧ i.tag = 0x020#12 ∧ i.length.toNat = 4 ∧
      s.store.array.pairs[0]? = some ⟨.copy i, .copy j⟩ ∧ j.pair.later i.pair = true ∧
      s.store.array.pairs[1]? = some ⟨.copy i, .copy i⟩ ∧ i.pair.later i.pair = false ∧
      s.store.array.pairs[2]? = some ⟨.torn, .copy j⟩ ∧ s.store.array.pairs[47]? = some ⟨.erased, .erased⟩ ∧
      s.store.array.stationA = .copy 255#8 (stationCode 255#8) ∧
      s.store.array.stationB = .copy 0#8 (stationCode 0#8) ∧ (0#8 : BitVec 8) = 255#8 + 1#8 := by decide +kernel

theorem witness_SupplyWatchFreezesAndRestores :
    let r := station5.setControl { station5.control with config := some { cfg5 with action := .restart } }
    let w := station5.setControl { station5.control with quiesceWaiting := true }
    let f := (station .frozen).setControl { (station .frozen).control with watch := .low, returnState := .joining }
    let g := f.setControl { f.control with returnState := .quiesced }
    let l := State.reset.setControl { State.reset.control with watch := .low }
    (station5.control.watch = .good ∧ station5.control.quiesceWaiting = false ∧ station5.control.link = .active ∧
      station5.control.config = some cfg5 ∧ cfg5.action = .freeze ∧ w.control.quiesceWaiting = true ∧
      w.control.watch = .good ∧ r.control.watch = .good ∧ r.control.link = .active ∧
      r.control.config = some { cfg5 with action := .restart } ∧ State.reset.control.watch = .good ∧
      State.reset.control.link = .start) ∧
    (f.control.watch = .low ∧ f.control.link = .frozen ∧ f.control.returnState = .joining ∧ g.control.watch = .low ∧
      g.control.link = .frozen ∧ g.control.returnState = .quiesced ∧ l.control.watch = .low ∧ l.control.link = .start) ∧
    station5.pfailPin = false ∧ (after (.supplyLow false) station5).pfailPin = true ∧ station5.takesRequest = true := by
  decide

/-- The first pair free, the last pair assigned, and no pair left; each request; and what holds an operation back. -/
theorem witness_EngineTakesItsNextOperation :
    let s := station5.setStore { station5.store with commitQ := [0x020#12] }
    let last := s.setPairMap ((List.range 48).map fun n =>
      if n = 47 then ⟨some 0x020#12, .valid, .valid, some .a⟩ else ⟨some (BitVec.ofNat 12 (n + 0x400)), .valid, .erased, some .a⟩)
    let none_ := s.setPairMap ((List.range 48).map fun n => ⟨some (BitVec.ofNat 12 (n + 0x400)), .valid, .erased, some .a⟩)
    let c := (station .quiesced).setStore { (station .quiesced).store with request := some (.configWrite cfg5) }
    let w := (station .quiesced).setStore { (station .quiesced).store with request := some .wipe }
    (s.control.link = .active ∧ s.store.engine.op = none ∧ s.store.request = none ∧ s.store.commitQ = 0x020#12 :: [] ∧
      s.table.find 0x020#12 = some e020 ∧ s.store.pairMap[0]? = some .free ∧
      (∀ x ∈ s.store.pairMap, x.tag ≠ some 0x020#12) ∧ PairMapEntry.free.tag = none) ∧
    (last.store.pairMap[47]? = some ⟨some 0x020#12, .valid, .valid, some .a⟩ ∧
      (∀ x ∈ last.store.pairMap.take 47, x.tag ≠ some 0x020#12)) ∧
    (∀ x ∈ none_.store.pairMap, x.tag ≠ some 0x020#12 ∧ x.tag ≠ none) ∧
    (s.store.array.pairs[0]? = some ⟨.erased, .erased⟩ ∧ s.store.array.pairs[47]? = some ⟨.erased, .erased⟩) ∧
    (c.control.link = .quiesced ∧ c.store.engine.op = none ∧ c.store.request = some (.configWrite cfg5) ∧
      w.store.request = some .wipe ∧ w.store.engine.op = none) ∧
    ((s.beginOp (.wipe 0 true)).store.engine.op ≠ none ∧ State.reset.control.link = .start ∧
      (station .frozen).control.link = .frozen ∧ c.store.request ≠ none) := by decide +kernel

theorem witness_CommitsEnd :
    let op := StoreOp.commit 0x020#12 47 .b e020.image true
    let s := station5.setStore { station5.store with commitQ := [0x020#12], engine := ⟨some op, 1, 47999, false⟩ }
    s.store.engine = ⟨some op, 1, 47999, false⟩ ∧ 0 < 47999 ∧ s.store.commitQ = 0x020#12 :: [] ∧
      s.table.find 0x020#12 = some e020 ∧ s.store.pairMap[47]? = some .free ∧
      s.store.array.pairs[47]? = some ⟨.erased, .erased⟩ ∧
      (s.setEngine ⟨some op, 0, 47999, false⟩).store.engine = ⟨some op, 0, 47999, false⟩ ∧
      (s.setEngine ⟨some op, 1, 0, false⟩).store.engine = ⟨some op, 1, 0, false⟩ := by decide +kernel

theorem witness_WriteDoneEndsTheOtherOperations :
    let g (op : StoreOp) (n : Nat) : WriteEngine := ⟨some op, n, 9, false⟩
    let a := State.reset.setEngine (g (.incarnation .a 1#8) 1)
    let p := (station .quiesced).setPort { (station .quiesced).port with state := .working }
    let c := p.setEngine (g (.configWrite cfg5) 1)
    let w := p.setEngine (g (.wipe 46 true) 0)
    let z := p.setEngine (g (.wipe 47 false) 0)
    let f := p.setEngine (g (.wipe 46 true) 1)
    let l := p.setEngine (g (.wipe 47 true) 1)
    (a.store.engine = g (.incarnation .a 1#8) 1 ∧ a.control.link = .start) ∧
    (c.store.engine = g (.configWrite cfg5) 1 ∧ c.port.state = .working ∧ cfg5.period ≠ 0#8) ∧
    (w.store.engine = g (.wipe 46 true) 0 ∧ 46 < 47 ∧ w.store.pairMap[46]? = some .free ∧
      z.store.engine = g (.wipe 47 false) 0 ∧ z.port.state = .working) ∧
    ((p.setEngine (g (.configWrite cfg5) 0)).store.engine = g (.configWrite cfg5) 0 ∧
      (State.reset.setEngine (g (.incarnation .a 1#8) 0)).store.engine = g (.incarnation .a 1#8) 0 ∧ 0 < 9 ∧
      f.store.engine = g (.wipe 46 true) 1 ∧ f.store.pairMap[46]? = some .free ∧
      l.store.engine = g (.wipe 47 true) 1 ∧ l.store.pairMap[47]? = some .free ∧ l.port.state = .working) := by
  decide +kernel

end Sys2Proof.Tests
end

section
/-! SUPPORT. What it is for a command to end in a next state with a property, what a step keeps, and where a request goes. -/

namespace Sys2Proof.Machine

/-! ### Outcomes and steps -/

/-- The outcome is a next state, and that state has the property. -/
def Meets (r : Result) (P : State → Prop) : Prop :=
  ∃ t, r = .next t ∧ P t

theorem Meets.next {P : State → Prop} {t : State} (h : P t) : Meets (.next t) P :=
  ⟨t, rfl, h⟩

theorem Meets.of_eq {P : State → Prop} {r : Result} {t : State} (h : Meets r P) (hr : r = .next t) : P t := by
  obtain ⟨u, hu, hp⟩ := h
  rw [hr] at hu
  cases hu
  exact hp

theorem Meets.mono {P Q : State → Prop} {r : Result} (h : Meets r P) (hpq : ∀ t, P t → Q t) : Meets r Q := by
  obtain ⟨t, ht, hp⟩ := h
  exact ⟨t, ht, hpq t hp⟩

/-- A due event keeps what every command keeps. -/
theorem takeDue_preserves {P : State → Prop} (hexec : ∀ c s, P s → Meets (exec c s) P) {r : Result} (hr : Meets r P)
    (test : State → Option Instr) : Meets (takeDue r test) P := by
  obtain ⟨s, rfl, hs⟩ := hr
  simp only [takeDue]
  split
  · exact hexec _ s hs
  · exact .next hs

/-- What every command keeps and the passing of a quantum keeps, a step keeps (log entry 4). -/
theorem step_preserves {P : State → Prop} (hpending : ∀ s rest, P s → P { s with pending := rest })
    (hadvance : ∀ s, P s → P s.advance) (hexec : ∀ c s, P s → Meets (exec c s) P) {s : State} (hs : P s) :
    Meets (step s) P := by
  unfold step
  cases s.pending with
  | cons c rest => exact hexec c _ (hpending s rest hs)
  | nil =>
    suffices h : ∀ (tests : List (State → Option Instr)) (r : Result), Meets r P → Meets (tests.foldl takeDue r) P from
      h _ _ (.next (hadvance s hs))
    intro tests
    induction tests with
    | nil => exact fun r hr => hr
    | cons test rest ih => exact fun r hr => ih _ (takeDue_preserves hexec hr test)

/-! ### Requests (R169) -/

/-- R169, R182: a request is dropped, or, taken in IDLE or READY, answered at once or handed to its owner, a gated one not in
FROZEN. -/
theorem State.request_cases (s : State) (code : Byte) (args : List Byte) (sized gated : Bool) (owner : State → State) :
    (∃ p, s.request code args sized gated owner = s.setPort p ∧ p.state = s.port.state ∧
        p.response = s.port.response ∧ p.notices = s.port.notices ∧ p.attn = s.port.attn) ∨
      ((s.port.state = .idle ∨ s.port.state = .ready) ∧
        ((∃ c, s.request code args sized gated owner = (s.taken code args).answer c []) ∨
          ((gated = true → s.control.link ≠ .frozen) ∧
            s.request code args sized gated owner = owner (s.taken code args)))) := by
  cases h : s.port.state with
  | notReady => exact .inl ⟨_, s.request_notReady code args sized gated owner h, h, rfl, rfl, rfl⟩
  | working => exact .inl ⟨_, s.request_working code args sized gated owner h, h, rfl, rfl, rfl⟩
  | idle =>
    rw [s.request_taken code args sized gated owner (.inl h)]
    split_ifs with hs hg
    · exact .inr ⟨.inl rfl, .inl ⟨_, rfl⟩⟩
    · exact .inr ⟨.inl rfl, .inl ⟨_, rfl⟩⟩
    · exact .inr ⟨.inl rfl, .inr ⟨by simpa using hg, rfl⟩⟩
  | ready =>
    rw [s.request_taken code args sized gated owner (.inr h)]
    split_ifs with hs hg
    · exact .inr ⟨.inr rfl, .inl ⟨_, rfl⟩⟩
    · exact .inr ⟨.inr rfl, .inl ⟨_, rfl⟩⟩
    · exact .inr ⟨.inr rfl, .inr ⟨by simpa using hg, rfl⟩⟩

/-- A request of the right size, taken outside FROZEN, goes to its owner. -/
theorem State.request_owner (s : State) (code : Byte) (args : List Byte) (gated : Bool) (owner : State → State)
    (h : s.takesRequest = true) (hl : s.control.link ≠ .frozen) :
    s.request code args true gated owner = owner (s.taken code args) := by
  have hp : s.port.state = .idle ∨ s.port.state = .ready := by simpa [State.takesRequest] using h
  simp [s.request_taken code args true gated owner hp, hl]

end Sys2Proof.Machine
end

section
/-! SUPPORT. How the Record Table can change: marks of a held entry, a new entry, a later pair, store states; and the operations
that change no more than marks. -/

namespace Sys2Proof.Machine

/-! ### Changes of the Record Table -/

/-- R19, R14: one held entry's watch or pending mark changes. -/
inductive MarkStep (t : RecordTable) : RecordTable → Prop where
  | mark (tag : Tag) (held : Entry) (watch unsent : Bool) (h : t.find tag = some held) :
    MarkStep t (t.put { held with watch := watch, unsent := unsent })

/-- Marks change, and nothing else of the table. -/
abbrev RecordTable.Marked : RecordTable → RecordTable → Prop :=
  Relation.ReflTransGen MarkStep

/-- R5, R10, R31: an entry that may replace a held one: of its attributes, and of its pair and value or of a later pair. -/
structure Entry.Revises (e held : Entry) : Prop where
  cls : e.cls = held.cls
  persistent : e.persistent = held.persistent
  owner : e.owner = held.owner
  content : (e.pair = held.pair ∧ e.value = held.value) ∨
    (e.pair.later held.pair = true ∧ e.value.length ≤ maxLength ∧ (e.cls = .owned → e.owner = some e.pair.origin))

/-- One change of the table by anything but a load: an entry created, a held one revised, or store states set. -/
inductive TableStep (t : RecordTable) : RecordTable → Prop where
  | create (e : Entry) (absent : t.find e.tag = none) (room : t.entries.length < maxEntries)
      (sound : e.sound = true) : TableStep t (t.put e)
  | revise (e held : Entry) (h : t.find e.tag = some held) (revises : e.Revises held) :
    TableStep t (t.put e)
  | setStores (f : Entry → StoreState) :
    TableStep t { t with entries := t.entries.map fun e => { e with storeState := f e } }

/-- The table changes as anything but a load changes it. -/
abbrev RecordTable.Evolves : RecordTable → RecordTable → Prop :=
  Relation.ReflTransGen TableStep

theorem RecordTable.Marked.evolves {t t' : RecordTable} (h : t.Marked t') : t.Evolves t' := by
  refine Relation.ReflTransGen.mono ?_ _ _ h
  rintro t _ ⟨tag, held, watch, unsent, hf⟩
  exact .revise _ held (by rw [RecordTable.find_tag hf, hf]) ⟨rfl, rfl, rfl, .inl ⟨rfl, rfl⟩⟩

theorem State.modifyEntry_marked (s : State) (tag : Tag) (f : Entry → Entry)
    (hf : ∀ e, ∃ watch unsent, f e = { e with watch := watch, unsent := unsent }) :
    s.table.Marked (s.modifyEntry tag f).table := by
  unfold State.modifyEntry
  split
  · rename_i e he
    obtain ⟨watch, unsent, h⟩ := hf e
    rw [h]
    exact .single (.mark tag e watch unsent he)
  · exact .refl

theorem State.clearUnsent_marked (s : State) (tag : Tag) (captured : Option OrderPair) :
    s.table.Marked (s.clearUnsent tag captured).table := by
  refine s.modifyEntry_marked tag _ fun e => ?_
  split
  · exact ⟨e.watch, false, rfl⟩
  · exact ⟨e.watch, e.unsent, rfl⟩

theorem State.setStoreState_evolves (s : State) (tag : Tag) (st : StoreState) :
    s.table.Evolves (s.setStoreState tag st).table := by
  unfold State.setStoreState State.modifyEntry
  split
  · rename_i e he
    exact .single (.revise _ e (by rw [RecordTable.find_tag he, he]) ⟨rfl, rfl, rfl, .inl ⟨rfl, rfl⟩⟩)
  · exact .refl

/-! ### Operations that leave the store, Station Control and the port's state -/

/-- From `s` to `t` the table changes by marks alone, and the store, Station Control, and the port's state and response are as
they were. -/
structure Quiet (s t : State) : Prop where
  table : s.table.Marked t.table
  store : t.store = s.store
  control : t.control = s.control
  portState : t.port.state = s.port.state
  response : t.port.response = s.port.response

theorem Quiet.refl (s : State) : Quiet s s :=
  ⟨.refl, rfl, rfl, rfl, rfl⟩

theorem Quiet.trans {s t u : State} (h : Quiet s t) (h' : Quiet t u) : Quiet s u :=
  ⟨h.table.trans h'.table, h'.store.trans h.store, h'.control.trans h.control, h'.portState.trans h.portState,
    h'.response.trans h.response⟩

/-- An operation that leaves the four blocks is quiet. -/
theorem Quiet.of_frame {s t : State} (htable : t.table = s.table) (hstore : t.store = s.store)
    (hcontrol : t.control = s.control) (hport : t.port = s.port) : Quiet s t :=
  ⟨by rw [htable], hstore, hcontrol, by rw [hport], by rw [hport]⟩

theorem Quiet.post (s : State) (n : Notice) : Quiet s (s.post n) :=
  ⟨by simpa using .refl, by simp, by simp, by simp, by simp⟩

theorem Quiet.postIf (s : State) (n : Option Notice) : Quiet s (s.postIf n) := by
  cases n with
  | none => exact .refl s
  | some n => exact .post s n

theorem Quiet.clearUnsent (s : State) (tag : Tag) (captured : Option OrderPair) : Quiet s (s.clearUnsent tag captured) :=
  ⟨s.clearUnsent_marked tag captured, by simp, by simp, by simp, by simp⟩

theorem Quiet.setFe {s t : State} (h : Quiet s t) (x : FrameEngine) : Quiet s (t.setFe x) :=
  h.trans (.of_frame rfl rfl rfl rfl)

theorem Quiet.setLine {s t : State} (h : Quiet s t) (x : LineIf) : Quiet s (t.setLine x) :=
  h.trans (.of_frame rfl rfl rfl rfl)

theorem Quiet.setSendQ {s t : State} (h : Quiet s t) (x : List SendItem) : Quiet s (t.setSendQ x) :=
  h.trans (.of_frame rfl rfl rfl rfl)

theorem Quiet.setSync {s t : State} (h : Quiet s t) (x : SyncUnit) : Quiet s (t.setSync x) :=
  h.trans (.of_frame rfl rfl rfl rfl)

theorem Quiet.setReports {s t : State} (h : Quiet s t) (x : Reports) : Quiet s (t.setReports x) :=
  h.trans (.of_frame rfl rfl rfl rfl)

/-! ### The Frame Engine's operations -/

theorem Quiet.rest {s t : State} (h : Quiet s t) : Quiet s t.rest :=
  h.trans (.of_frame (by simp) (by simp) (by simp) (by simp))

theorem Quiet.returnItem {s t : State} (h : Quiet s t) : Quiet s t.returnItem :=
  h.trans (.of_frame (by simp) (by simp) (by simp) (by simp))

theorem Quiet.leaveFrame {s t : State} (h : Quiet s t) : Quiet s t.leaveFrame :=
  h.trans (.of_frame (by simp) (by simp) (by simp) (by simp))

theorem Quiet.toldCompleted {s t : State} (h : Quiet s t) (kind : FrameKind) (o : Outcome) :
    Quiet s (t.toldCompleted kind o) :=
  h.trans (.of_frame (by simp) (by simp) (by simp) (by simp))

/-- Table 45: a completion clears a pending mark at most, and posts. -/
theorem Quiet.complete (s : State) (o : Outcome) : Quiet s (s.complete o) := by
  unfold State.complete
  split
  · rename_i item rest _
    split_ifs
    · have hq : Quiet s (s.setSendQ (afterRemoval s.onBus item rest)) := (Quiet.refl s).setSendQ _
      refine .toldCompleted (.trans ?_ (.postIf _ _)) _ _
      split
      · exact hq.trans (.clearUnsent _ _ _)
      · exact hq.trans (.clearUnsent _ _ _)
      · exact hq
    · exact .refl s
  · exact .refl s

theorem Quiet.countAttempt (s : State) : Quiet s s.countAttempt := by
  unfold State.countAttempt
  split
  · split_ifs
    · exact ((Quiet.refl s).setSendQ _).returnItem
    · exact ((Quiet.refl s).setSendQ _).trans (.complete _ _)
    · exact .refl s
  · exact .refl s

theorem Quiet.fixOutcome (s : State) : Quiet s s.fixOutcome := by
  unfold State.fixOutcome
  refine .setFe ?_ _
  split
  · exact .countAttempt s
  · exact .complete s _

theorem Quiet.applyLateLoss (s : State) : Quiet s s.applyLateLoss := by
  unfold State.applyLateLoss
  split
  · split_ifs
    · exact ((Quiet.post s _).setSendQ _).rest
    · exact (Quiet.refl s).rest
  · exact (Quiet.refl s).rest

theorem Quiet.lossNotConfirmed (s : State) : Quiet s s.lossNotConfirmed :=
  (Quiet.countAttempt s).rest.setFe _

theorem Quiet.endLateLoss (s : State) : Quiet s s.endLateLoss := by
  unfold State.endLateLoss
  split_ifs
  · exact .applyLateLoss s
  · exact ((Quiet.refl s).setReports _).returnItem.rest
  · exact .lossNotConfirmed s

theorem Quiet.abandonFrame (s : State) : Quiet s s.abandonFrame := by
  unfold State.abandonFrame
  refine Quiet.leaveFrame ?_
  split_ifs
  · exact .lossNotConfirmed s
  · exact (Quiet.countAttempt s).rest
  · exact (Quiet.refl s).rest
  · exact .refl s

theorem Quiet.advanceTx (s : State) (placed : Option Bool) (bit : Bool) : Quiet s (s.advanceTx placed bit) := by
  have hr : Quiet s s.becomeReceiver := .of_frame (by simp) (by simp) (by simp) (by simp)
  simp only [State.advanceTx]
  split
  · split_ifs
    · exact hr.returnItem.rest
    · exact (Quiet.refl s).setFe _
    · exact .refl s
  · split_ifs
    · exact (hr.setFe _).trans (.lossNotConfirmed _)
    · exact hr.setFe _
    · exact (Quiet.refl s).setFe _
    · exact .refl s
  · split_ifs
    · exact .fixOutcome s
    · exact .refl s
  · split_ifs
    · exact .lossNotConfirmed s
    · exact .refl s
  · exact .refl s
  · exact .refl s

theorem Quiet.clockRise {s t : State} (h : Quiet s t) : Quiet s t.clockRise :=
  h.trans (.of_frame (by simp) (by simp) (by simp) (by simp))

theorem Quiet.rise (s : State) (level : Bool) : Quiet s (s.rise level) := by
  unfold State.rise State.readLines
  split_ifs
  · exact (Quiet.refl s).setLine _
  · exact .refl s
  · exact ((((Quiet.refl s).setLine _).setFe _).trans (.advanceTx _ _ _)).clockRise
  · exact (Quiet.refl s).setLine _

end Sys2Proof.Machine
end

section
/-! SUPPORT. The commands that change no more of the Record Table than marks, and leave the store, Station Control and the
port's state. -/

namespace Sys2Proof.Machine

/-- The commands of the lines, of the frames of other kinds than PUBLISH, and of the Sync Unit's timers, with the begin of a
transaction and the release of RESET. -/
def quietCommand : Instr → Bool
  | .transactionBegin _ | .quietGap | .idleLost _ | .rightToOpen | .openingMark | .arbitrationLoss | .lateLoss
  | .beaconFrame | .digestFrame | .pullFrame | .voteOutcome _ | .endMark | .holdLimit | .frameBroken | .stuckLimit _
  | .recovery | .resetRelease | .beaconTimer | .silenceTimeout _ | .listenWindowEnd | .settleElapsed | .nextAskDue _
  | .pullUnanswered _ | .bitTaken _ | .bckFall | .clockHalfEnd => true
  | _ => false

/-! ### The Line Interface -/

theorem Quiet.openFrame {s t : State} (h : Quiet s t) : Quiet s t.openFrame :=
  h.trans (.of_frame (by simp) (by simp) (by simp) (by simp))

theorem Quiet.endForeign {s t : State} (h : Quiet s t) : Quiet s t.endForeign :=
  h.trans (.of_frame (by simp) (by simp) (by simp) (by simp))

theorem Quiet.openHead {s t : State} (h : Quiet s t) : Quiet s t.openHead :=
  h.trans (.of_frame (by simp) (by simp) (by simp) (by simp))

theorem execRightToOpen_quiet (s : State) : Meets (execRightToOpen s) (Quiet s) := by
  refine .next ?_
  dsimp only
  split_ifs
  · exact ((Quiet.refl s).setLine _).openHead
  · exact (Quiet.refl s).setLine _
  · exact .refl s

theorem execOpeningMark_quiet (s : State) : Meets (execOpeningMark s) (Quiet s) := by
  refine .next ?_
  split_ifs
  · exact (Quiet.refl s).setLine _
  · exact (Quiet.refl s).setLine _
  · exact (Quiet.refl s).openFrame
  · exact (Quiet.refl s).setLine _

theorem execEndMark_quiet (s : State) : Meets (execEndMark s) (Quiet s) := by
  refine .next ?_
  have h (l : LineIf) : Quiet s (s.setLine l) := (Quiet.refl s).setLine l
  split_ifs
  · exact h _
  · exact h _
  · refine Quiet.leaveFrame ?_
    split
    · exact (h _).trans (.endLateLoss _)
    · split_ifs
      · exact (h _).rest
      · exact (h _).endForeign
    · exact (h _).endForeign
    · exact (h _).endForeign
    · exact h _
    · exact h _
  · exact h _

theorem execFrameBroken_quiet (s : State) : Meets (execFrameBroken s) (Quiet s) := by
  refine .next ?_
  split_ifs
  · refine Quiet.leaveFrame ?_
    split_ifs
    · exact ((Quiet.refl s).setLine _).trans (.endLateLoss _)
    · exact (Quiet.refl s).setLine _
  · exact .refl s

theorem execStuckLimit_quiet (line : Line) (s : State) : Meets (execStuckLimit line s) (Quiet s) := by
  refine .next ?_
  dsimp only
  split_ifs
  · exact (((Quiet.refl s).setLine _).trans (.abandonFrame _)).setReports _
  · exact ((Quiet.refl s).setLine _).setReports _
  · exact .refl s

theorem execBckFall_quiet (s : State) : Meets (execBckFall s) (Quiet s) := by
  refine .next ?_
  dsimp only
  have h0 : Quiet s s.takeOwnOpening := by
    unfold State.takeOwnOpening
    split_ifs
    · exact (Quiet.refl s).openFrame
    · exact .refl s
  have h1 : ∀ t, Quiet s t → Quiet s t.fallInFrame := fun t h =>
    h.trans (.of_frame (by simp) (by simp) (by simp) (by simp))
  split_ifs
  · exact (Quiet.refl s).setLine _
  · exact (Quiet.refl s).setLine _
  · exact h1 _ (h0.setLine _)
  · exact (h0.setLine _).setLine _
  · exact h0.setLine _

/-! ### Received frames of other kinds than PUBLISH -/

theorem Quiet.castVote {s t : State} (h : Quiet s t) (v : Vote) : Quiet s (t.castVote v) :=
  h.trans (.of_frame (by simp) (by simp) (by simp) (by simp))

theorem Quiet.castNone {s t : State} (h : Quiet s t) : Quiet s t.castNone :=
  h.trans (.of_frame (by simp) (by simp) (by simp) (by simp))

theorem Quiet.rosterBeacon (s : State) (f : BeaconContent) : Quiet s (s.rosterBeacon f) := by
  have h (y : SyncUnit) : Quiet s (s.setSync y) := (Quiet.refl s).setSync y
  have hp (t : State) (ht : Quiet s t) (n : Notice) : Quiet s (t.post n) := ht.trans (.post t n)
  simp only [State.rosterBeacon]
  split
  · split_ifs
    · exact hp _ (h _) _
    · exact .refl s
  · split_ifs
    · exact hp _ (hp _ (h _) _) _
    · exact hp _ (h _) _
    · exact hp _ (h _) _
    · exact h _

theorem Quiet.rosterHeard (s : State) (sender : StationId) : Quiet s (s.rosterHeard sender) := by
  simp only [State.rosterHeard]
  split
  · exact .refl s
  · split_ifs
    · exact ((Quiet.refl s).setSync _).trans (.post _ _)
    · exact (Quiet.refl s).setSync _

theorem Quiet.decideOther (s : State) (c : FrameContent) (sender : StationId) (hand : State → State)
    (h : Quiet s (hand s)) : Quiet s (s.decideOther c sender hand) := by
  unfold State.decideOther
  split_ifs
  · exact (Quiet.refl s).castVote _
  · exact (Quiet.refl s).castVote _
  · exact (Quiet.refl s).castNone.setReports _
  · exact h.castVote _

theorem Quiet.compareTables {s t : State} (h : Quiet s t) (f : BeaconContent) : Quiet s (t.compareTables f) :=
  h.trans (.of_frame (by simp) (by simp) (by simp) (by simp))

theorem Quiet.compareDigest {s t : State} (h : Quiet s t) (f : DigestContent) : Quiet s (t.compareDigest f) :=
  h.trans (.of_frame (by simp) (by simp) (by simp) (by simp))

theorem Quiet.answerPull {s t : State} (h : Quiet s t) (f : PullContent) : Quiet s (t.answerPull f) :=
  h.trans (.of_frame (by simp) (by simp) (by simp) (by simp))

theorem execBeaconFrame_quiet (s : State) : Meets (execBeaconFrame s) (Quiet s) := by
  refine .next ?_
  split_ifs
  · split
    · exact .decideOther s _ _ _ ((Quiet.rosterBeacon s _).compareTables _)
    · exact .refl s
  · exact .refl s

theorem execDigestFrame_quiet (s : State) : Meets (execDigestFrame s) (Quiet s) := by
  refine .next ?_
  split_ifs
  · split
    · exact .decideOther s _ _ _ ((Quiet.rosterHeard s _).compareDigest _)
    · exact .refl s
  · exact .refl s

theorem execPullFrame_quiet (s : State) : Meets (execPullFrame s) (Quiet s) := by
  refine .next ?_
  split_ifs
  · split
    · exact .decideOther s _ _ _ ((Quiet.rosterHeard s _).answerPull _)
    · exact .refl s
  · exact .refl s

/-! ### The Sync Unit's timers -/

theorem execBeaconTimer_quiet (s : State) : Meets (execBeaconTimer s) (Quiet s) := by
  refine .next ?_
  split_ifs
  · exact .of_frame (by simp) (by simp) (by simp) (by simp)
  · exact .refl s

theorem execSilenceTimeout_quiet (station : StationId) (s : State) : Meets (execSilenceTimeout station s) (Quiet s) := by
  refine .next ?_
  split
  · split_ifs
    · exact ((Quiet.refl s).setSync _).trans (.post _ _)
    · exact .refl s
  · exact .refl s

theorem execListenWindowEnd_quiet (s : State) : Meets (execListenWindowEnd s) (Quiet s) := by
  refine .next ?_
  split_ifs
  · exact .of_frame (by simp) (by simp) (by simp) (by simp)
  · exact .refl s

theorem execSettleElapsed_quiet (s : State) : Meets (execSettleElapsed s) (Quiet s) := by
  refine .next ?_
  split_ifs
  · exact .of_frame (by simp) (by simp) (by simp) (by simp)
  · exact .refl s

theorem execNextAskDue_quiet (tag : Tag) (s : State) : Meets (execNextAskDue tag s) (Quiet s) := by
  refine .next ?_
  split_ifs
  · exact .of_frame (by simp) (by simp) (by simp) (by simp)
  · exact .refl s

theorem execPullUnanswered_quiet (tag : Tag) (s : State) : Meets (execPullUnanswered tag s) (Quiet s) := by
  refine .next ?_
  have hr (t : State) : Quiet t t.testReady := .of_frame (by simp) (by simp) (by simp) (by simp)
  split
  · split_ifs
    · exact (((Quiet.refl s).setSync _).trans (.post _ _)).trans (hr _)
    · exact .refl s
  · exact .refl s

/-! ### All of them -/

/-- A quiet command ends in a next state that differs quietly. -/
theorem exec_quiet (c : Instr) (hc : quietCommand c = true) (s : State) : Meets (exec c s) (Quiet s) := by
  have hline (b : Bool) (l : LineIf) : Quiet s (if b then s.setLine l else s) := by
    cases b
    · exact .refl s
    · exact (Quiet.refl s).setLine l
  have hrise (p : Prop) [Decidable p] (level : Bool) : Quiet s (if p then s.rise level else s) := by
    split_ifs
    · exact .rise s level
    · exact .refl s
  cases c
  case transactionBegin empty => cases empty <;> exact .next ⟨.refl, rfl, rfl, rfl, rfl⟩
  case quietGap => exact .next (hline _ _)
  case idleLost line => exact .next (hline _ _)
  case rightToOpen => exact execRightToOpen_quiet s
  case openingMark => exact execOpeningMark_quiet s
  case arbitrationLoss => exact .next (hrise _ _)
  case lateLoss => exact .next (hrise _ _)
  case beaconFrame => exact execBeaconFrame_quiet s
  case digestFrame => exact execDigestFrame_quiet s
  case pullFrame => exact execPullFrame_quiet s
  case voteOutcome level => exact .next (hrise _ _)
  case endMark => exact execEndMark_quiet s
  case holdLimit =>
    refine .next ?_
    split_ifs
    · exact ((Quiet.refl s).setLine _).trans (.abandonFrame _)
    · exact .refl s
  case frameBroken => exact execFrameBroken_quiet s
  case stuckLimit line => exact execStuckLimit_quiet line s
  case recovery =>
    refine .next ?_
    split_ifs
    · exact ((Quiet.refl s).setLine _).setReports _
    · exact .refl s
  case resetRelease => exact .next (.of_frame rfl rfl rfl rfl)
  case beaconTimer => exact execBeaconTimer_quiet s
  case silenceTimeout station => exact execSilenceTimeout_quiet station s
  case listenWindowEnd => exact execListenWindowEnd_quiet s
  case settleElapsed => exact execSettleElapsed_quiet s
  case nextAskDue tag => exact execNextAskDue_quiet tag s
  case pullUnanswered tag => exact execPullUnanswered_quiet tag s
  case bitTaken level => exact .next (.rise s level)
  case bckFall => exact execBckFall_quiet s
  case clockHalfEnd => exact .next (hline _ _)
  all_goals cases hc

end Sys2Proof.Machine
end

section
/-! SUPPORT. What every other command does to the Record Table and to the array's record pairs. -/

namespace Sys2Proof.Machine

/-! ### The store's parts -/

@[simp] theorem State.setArray_store (s : State) (m : RetainedArray) :
    (s.setArray m).store = { s.store with array := m } := rfl
@[simp] theorem State.setEngine_store (s : State) (g : WriteEngine) :
    (s.setEngine g).store = { s.store with engine := g } := rfl
@[simp] theorem State.setPairMap_store (s : State) (m : List PairMapEntry) :
    (s.setPairMap m).store = { s.store with pairMap := m } := rfl

@[simp] theorem RetainedArray.underWrite_length (m : RetainedArray) (op : StoreOp) :
    (m.underWrite op).pairs.length = m.pairs.length := by
  cases op with
  | incarnation slot _ => cases slot <;> rfl
  | _ => simp [underWrite, setSlot, setPair]

@[simp] theorem RetainedArray.cutShort_length (m : RetainedArray) (n : Nat) (op : StoreOp) :
    (m.cutShort n op).pairs.length = m.pairs.length := by
  cases op with
  | incarnation slot _ => cases slot <;> rfl
  | _ => simp [cutShort, setSlot, setPair]

@[simp] theorem RetainedArray.misread_length (m : RetainedArray) (n : Nat) (op : StoreOp) :
    (m.misread n op).pairs.length = m.pairs.length := by
  cases op with
  | incarnation slot _ => cases slot <;> rfl
  | _ => simp [misread, setSlot, setPair]

@[simp] theorem RetainedArray.written_length (m : RetainedArray) (op : StoreOp) :
    (m.written op).pairs.length = m.pairs.length := by
  cases op with
  | incarnation slot _ => cases slot <;> rfl
  | _ => simp [written, setSlot, setPair]

/-! ### The relation -/

/-- From `s` to `t` the table changes as anything but a load changes it, and the array keeps its number of record pairs. -/
structure Advances (s t : State) : Prop where
  table : s.table.Evolves t.table
  pairs : t.store.array.pairs.length = s.store.array.pairs.length

theorem Advances.refl (s : State) : Advances s s :=
  ⟨.refl, rfl⟩

theorem Advances.trans {s t u : State} (h : Advances s t) (h' : Advances t u) : Advances s u :=
  ⟨h.table.trans h'.table, h'.pairs.trans h.pairs⟩

theorem Advances.of_frame {s t : State} (htable : t.table = s.table)
    (hpairs : t.store.array.pairs.length = s.store.array.pairs.length) : Advances s t :=
  ⟨by rw [htable], hpairs⟩

theorem Quiet.advances {s t : State} (h : Quiet s t) : Advances s t :=
  ⟨h.table.evolves, by rw [h.store]⟩

theorem Advances.setStoreState (s : State) (tag : Tag) (st : StoreState) : Advances s (s.setStoreState tag st) :=
  ⟨s.setStoreState_evolves tag st, by simp⟩

/-! ### Entries created and replaced (R10, R28, R31) -/

/-- R1, R4, R5: an entry's ranges, and its owner by its class. -/
theorem Entry.sound_iff (e : Entry) : e.sound = true ↔ recordTag e.tag = true ∧ e.pair.version ≠ 0#16 ∧
    e.value.length ≤ maxLength ∧ e.owner = if e.cls = .owned then some e.pair.origin else none := by
  simp [Entry.sound, and_assoc]

/-- The entry may be put into the table: created in a free place, or for a held one it revises. -/
def RecordTable.Admits (t : RecordTable) (e : Entry) : Prop :=
  (t.find e.tag = none ∧ t.entries.length < maxEntries ∧ e.sound = true) ∨ ∃ held, t.find e.tag = some held ∧ e.Revises held

theorem State.changeEntry_evolves (s : State) (e : Entry) (h : s.table.Admits e) :
    s.table.Evolves (s.changeEntry e).table := by
  rw [State.changeEntry_table]
  obtain ⟨habsent, hroom, hsound⟩ | ⟨held, hheld, hrev⟩ := h
  · exact .single (.create _ habsent hroom hsound)
  · exact .single (.revise _ held hheld ⟨hrev.cls, hrev.persistent, hrev.owner, hrev.content⟩)

theorem argRecordTag_recordTag {args : List Byte} {tag : Tag} (h : argRecordTag args = some tag) : recordTag tag = true := by
  simp only [argRecordTag] at h
  split_ifs at h with hc
  cases h
  simp only [Bool.and_eq_true] at hc
  exact hc.2

theorem parseWrite_tag {args : List Byte} {w : WriteArgs} {tag : Tag} (h : parseWrite args = some w)
    (ht : w.tag = some tag) : recordTag tag = true := by
  unfold parseWrite at h
  split at h
  · split_ifs at h
    cases h
    exact argRecordTag_recordTag ht
  · cases h

/-- Table 6: what a WRITE that meets every check has met. -/
theorem State.writeCheck_ok {s : State} {w : WriteArgs} {tag : Tag} {cls : RecordClass} {persistent : Bool}
    (h : s.writeCheck w = .ok (tag, cls, persistent)) :
    s.control.link = .active ∧ w.tag = some tag ∧ w.cls = some cls ∧ w.persistent = some persistent ∧
      w.value.length ≤ maxLength ∧ (s.table.find tag = none → s.table.entries.length < maxEntries) ∧
      (∀ e, s.table.find tag = some e → e.cls = cls ∧ e.persistent = persistent ∧
        (e.cls = .owned → e.owner = some s.control.ownId) ∧ e.pair.version ≠ 0xFFFF#16) := by
  have hactive : s.control.link = .active := by
    by_contra hc
    simp [State.writeCheck, hc] at h
  rw [State.writeCheck, if_neg (by simp [hactive])] at h
  split at h
  · rename_i tag' cls' persistent' htag hcls hpersistent
    dsimp only at h
    split_ifs at h with hlen hfull hmis howner hmax hwanted hq
    cases h
    refine ⟨hactive, htag, hcls, hpersistent, by omega, fun hn => ?_, fun e he => ?_⟩
    · simpa [hn] using hfull
    · simp only [he, Option.any_some, Bool.or_eq_true, bne_iff_ne, ne_eq, not_or, not_not, Bool.and_eq_true, beq_iff_eq,
        not_and] at hmis howner hmax
      exact ⟨hmis.1, hmis.2, howner, hmax⟩
  · cases h

theorem OrderPair.later_of_next (p : OrderPair) (origin : StationId) (h : p.version ≠ 0xFFFF#16) :
    OrderPair.later ⟨p.version + 1#16, origin⟩ p = true := by
  have hv : p.version.toNat < (p.version + 1#16).toNat := by bv_omega
  simp only [OrderPair.later, hv, decide_true, Bool.true_or]

/-- R10, R2: the entry of an accepted WRITE is a new one in a free place, or the held one's next version. -/
theorem State.writtenEntry_admits {s : State} {w : WriteArgs} {tag : Tag} {cls : RecordClass} {persistent : Bool}
    (h : s.writeCheck w = .ok (tag, cls, persistent)) (ht : recordTag tag = true) :
    s.table.Admits (s.writtenEntry tag cls persistent w.value) := by
  obtain ⟨-, -, -, -, hlen, hroom, hheld⟩ := s.writeCheck_ok h
  unfold State.writtenEntry
  split
  · rename_i e he
    obtain ⟨-, -, howner, hmax⟩ := hheld e he
    exact .inr ⟨e, by rw [RecordTable.find_tag he, he], rfl, rfl, rfl, .inr ⟨e.pair.later_of_next _ hmax, hlen, howner⟩⟩
  · rename_i hn
    exact .inl ⟨hn, hroom hn, (Entry.sound_iff _).2 ⟨ht, by simp, hlen, rfl⟩⟩

/-- Table 11: past its first two cases the frame is good and not malformed. -/
theorem RecordTable.publishCase_wellFormed {t : RecordTable} {good : Bool} {f : PublishContent}
    (hcheck : t.publishCase good f ≠ .badCheck) (hform : t.publishCase good f ≠ .malformed) :
    good = true ∧ f.malformed = false := by
  have hg : good = true := by
    by_contra hc
    exact hcheck (by simp [RecordTable.publishCase, hc])
  refine ⟨hg, ?_⟩
  by_contra hc
  exact hform (by simp [RecordTable.publishCase, hg, hc])

/-- Table 11: the case that creates an entry. -/
theorem RecordTable.publishCase_created {t : RecordTable} {good : Bool} {f : PublishContent}
    (h : t.publishCase good f = .created) :
    f.malformed = false ∧ t.find f.tag = none ∧ t.entries.length < maxEntries := by
  obtain ⟨hg, hm⟩ := publishCase_wellFormed (t := t) (good := good) (f := f) (by simp [h]) (by simp [h])
  simp only [RecordTable.publishCase, hg, hm, Bool.not_true, Bool.false_eq_true, if_false] at h
  split at h
  · rename_i hn
    split_ifs at h with hfull
    exact ⟨hm, hn, by omega⟩
  · split_ifs at h

/-- Table 11: the case that replaces an entry. -/
theorem RecordTable.publishCase_later {t : RecordTable} {good : Bool} {f : PublishContent} {e : Entry}
    (h : t.publishCase good f = .later e) :
    f.malformed = false ∧ t.find f.tag = some e ∧ e.cls = f.cls ∧ e.persistent = f.persistent ∧
      (e.cls = .owned → e.owner = some f.pair.origin) ∧ f.pair.later e.pair = true := by
  obtain ⟨hg, hm⟩ := publishCase_wellFormed (t := t) (good := good) (f := f) (by simp [h]) (by simp [h])
  simp only [RecordTable.publishCase, hg, hm, Bool.not_true, Bool.false_eq_true, if_false] at h
  split at h
  · split_ifs at h
  · rename_i held hheld
    split_ifs at h with hattr howner hlater
    cases h
    simp only [Bool.or_eq_true, bne_iff_ne, ne_eq, not_or, not_not, Bool.and_eq_true, beq_iff_eq, not_and] at hattr howner
    exact ⟨hm, hheld, hattr.1, hattr.2, howner, hlater⟩

/-- R26: the values of a content that is not malformed. -/
theorem PublishContent.not_malformed {f : PublishContent} (h : f.malformed = false) :
    recordTag f.tag = true ∧ f.pair.version ≠ 0#16 ∧ f.value.length ≤ maxLength := by
  simp only [PublishContent.malformed, Bool.or_eq_false_iff, Bool.not_eq_false', beq_eq_false_iff_ne, bne_eq_false_iff_eq,
    decide_eq_false_iff_not, not_lt] at h
  obtain ⟨⟨⟨htag, hversion⟩, hlen⟩, hval⟩ := h
  exact ⟨htag, hversion, by omega⟩

/-- R28: a created entry is admitted. -/
theorem RecordTable.admits_created {t : RecordTable} {good : Bool} {f : PublishContent}
    (h : t.publishCase good f = .created) : t.Admits f.newEntry := by
  obtain ⟨hm, hn, hroom⟩ := t.publishCase_created h
  obtain ⟨htag, hversion, hlen⟩ := f.not_malformed hm
  exact .inl ⟨hn, hroom, f.newEntry.sound_iff.2 ⟨htag, hversion, hlen, rfl⟩⟩

/-- R31: an adopted version is admitted. -/
theorem RecordTable.admits_later {t : RecordTable} {good : Bool} {f : PublishContent} {e : Entry}
    (h : t.publishCase good f = .later e) : t.Admits (e.adopted f) := by
  obtain ⟨hm, he, -, -, howner, hlater⟩ := t.publishCase_later h
  have htag : (e.adopted f).tag = f.tag := (RecordTable.find_tag he : e.tag = f.tag)
  exact .inr ⟨e, by rw [htag, he], rfl, rfl, rfl, .inr ⟨hlater, (f.not_malformed hm).2.2, howner⟩⟩

/-- R28, R31: an adoption, with the posts and the report of what follows, is a change of one entry and otherwise quiet. -/
theorem State.adopt_quiet (s : State) (held : Option Entry) (f : PublishContent) :
    Quiet (s.changeEntry (match held with | some e => e.adopted f | none => f.newEntry)) (s.adopt held f) := by
  simp only [State.adopt]
  generalize s.changeEntry _ = t
  have h1 : Quiet t (t.adoptionReport f.tag f.pair) := .of_frame (by simp) (by simp) (by simp) (by simp)
  have hpost (b : Bool) (u : State) (n : Notice) (h : Quiet t u) : Quiet t (if b then u.post n else u) := by
    split_ifs
    · exact h.trans (.post u n)
    · exact h
  have hnote (u : State) (h : Quiet t u) : Quiet t (u.noteUnstored f.tag) := by
    unfold State.noteUnstored
    split
    · split_ifs
      · exact h.trans (.post u _)
      · exact h
    · exact h
  exact hnote _ (hpost _ _ _ (hpost _ _ _ h1))

theorem Quiet.suppress {s t : State} (h : Quiet s t) (tag : Tag) : Quiet s (t.suppress tag) :=
  h.trans (.of_frame (by simp) (by simp) (by simp) (by simp))

/-- Table 11: a decision changes one entry, if it adopts, and is otherwise quiet. -/
theorem State.decidePublish_cases (s : State) (f : PublishContent) :
    Quiet s (s.decidePublish f) ∨
      ∃ e, s.table.Admits e ∧ e.tag = f.tag ∧ Quiet (s.changeEntry e) (s.decidePublish f) := by
  unfold State.decidePublish
  simp only
  cases h : s.table.publishCase (s.fe.buf.good == some true) f with
  | badCheck => exact .inl ((Quiet.refl s).castVote _)
  | malformed => exact .inl ((Quiet.refl s).castVote _)
  | tableFull => exact .inl ((Quiet.post s _).castVote _)
  | created =>
    exact .inr ⟨_, RecordTable.admits_created h, rfl, ((s.adopt_quiet none f).suppress f.tag).castVote _⟩
  | attributesDiffer => exact .inl ((Quiet.post s _).castVote _)
  | ownerDiffers => exact .inl ((Quiet.post s _).castVote _)
  | later e =>
    exact .inr ⟨_, RecordTable.admits_later h, (RecordTable.find_tag (s.table.publishCase_later h).2.1 : e.tag = f.tag),
      ((s.adopt_quiet (some e) f).suppress f.tag).castVote _⟩
  | sameValue => exact .inl (((Quiet.refl s).suppress _).castVote _)
  | otherValue => exact .inl ((Quiet.post s _).castVote _)
  | earlier =>
    have hclaim : Quiet s (s.claimPublish f.tag) := .of_frame (by simp) (by simp) (by simp) (by simp)
    exact .inl (hclaim.castVote _)

end Sys2Proof.Machine
end

section
/-! SUPPORT. Every command but START_SEQUENCE advances the Record Table and keeps the number of record pairs. -/

namespace Sys2Proof.Machine

/-! ### Requests -/

theorem Advances.changeEntry (s : State) (e : Entry) (h : s.table.Admits e) : Advances s (s.changeEntry e) :=
  ⟨s.changeEntry_evolves e h, rfl⟩

theorem Advances.answer {s t : State} (h : Advances s t) (c : ResultCode) (d : List Byte) : Advances s (t.answer c d) :=
  h.trans (.of_frame (by simp) (by simp))

theorem Advances.post {s t : State} (h : Advances s t) (n : Notice) : Advances s (t.post n) :=
  h.trans (.of_frame (by simp) (by simp))

theorem Advances.setStore {s t : State} (h : Advances s t) (x : RetainedStore)
    (hx : x.array.pairs.length = t.store.array.pairs.length) : Advances s (t.setStore x) :=
  h.trans (.of_frame rfl hx)

/-- A request advances the table if its owner does. -/
theorem Advances.request (s : State) (code : Byte) (args : List Byte) (sized gated : Bool) (owner : State → State)
    (h : ∀ t, Advances t (owner t)) : Advances s (s.request code args sized gated owner) := by
  have ht : Advances s (s.taken code args) := .of_frame (by simp) (by simp)
  obtain ⟨p, hp, -⟩ | ⟨-, ⟨c, hc⟩ | ⟨-, ho⟩⟩ := s.request_cases code args sized gated owner
  · rw [hp]
    exact .of_frame rfl rfl
  · rw [hc]
    exact ht.answer c []
  · rw [ho]
    exact ht.trans (h _)

theorem Advances.ownerWatch (args : List Byte) (s : State) : Advances s (State.ownerWatch args s) := by
  unfold State.ownerWatch
  split
  · split
    · exact (Advances.refl s).answer _ _
    · exact Advances.answer ⟨(s.modifyEntry_marked _ _ fun e => ⟨_, e.unsent, rfl⟩).evolves, by simp⟩ _ _
  · exact (Advances.refl s).answer _ _

theorem Advances.ownerWrite (args : List Byte) (s : State) : Advances s (State.ownerWrite args s) := by
  unfold State.ownerWrite
  split
  · exact (Advances.refl s).answer _ _
  · rename_i w hw
    split
    · exact (Advances.refl s).answer _ _
    · rename_i tag cls persistent hok
      have htag := parseWrite_tag hw (s.writeCheck_ok hok).2.1
      have hchange := Advances.changeEntry s _ (s.writtenEntry_admits hok htag)
      exact .answer (hchange.trans (.of_frame (by simp [State.applyWrite]) (by simp [State.applyWrite]))) _ _

/-! ### PUBLISH frames -/

theorem Advances.decidePublish (s : State) (f : PublishContent) : Advances s (s.decidePublish f) := by
  obtain h | ⟨e, he, -, h⟩ := s.decidePublish_cases f
  · exact h.advances
  · exact (Advances.changeEntry s e he).trans h.advances

theorem execPublishFrame_advances (s : State) : Meets (execPublishFrame s) (Advances s) := by
  refine .next ?_
  split
  · split
    · split
      · exact (Advances.decidePublish s _).trans (Quiet.applyLateLoss _).advances
      · exact .decidePublish s _
    · exact .refl s
  · exact .refl s

theorem execLateLossConfirmed_advances (s : State) : Meets (execLateLossConfirmed s) (Advances s) := by
  refine .next ?_
  split
  · split
    · split
      · exact (Advances.decidePublish s _).trans (Quiet.applyLateLoss _).advances
      · exact .refl s
    · exact ((Quiet.refl s).castNone.setReports _).advances
    · exact .refl s
  · exact .refl s

/-! ### The write engine -/

theorem Advances.abandonOp (s : State) : Advances s s.abandonOp := by
  have hcut : Advances s s.cutEngine := by
    unfold State.cutEngine
    split
    · exact .refl s
    · exact .of_frame (by simp) (by simp [State.freeEngine])
  have hop : ∀ t, Advances s t → Advances s (match t.store.request with
      | some _ => (t.setStore { t.store with request := none }).answer .storeFailed []
      | none => t) := by
    intro t ht
    split
    · exact .answer (.setStore ht { t.store with request := none } rfl) _ _
    · exact ht
  unfold State.abandonOp
  refine hop _ ?_
  split
  · exact hcut.trans (.setStoreState _ _ _)
  · exact hcut.answer _ _
  · exact .answer (hcut.trans (.of_frame (by simp) (by simp))) _ _
  · exact hcut
  · exact hcut

theorem Advances.startCommitOn (s : State) (e : Entry) (pair : Nat) : Advances s (s.startCommitOn e pair) := by
  unfold State.startCommitOn
  split
  · exact .refl s
  · exact (Advances.setStoreState s e.tag .committing).trans (.of_frame (by simp) (by simp [State.beginOp]))

theorem Advances.dropHead (s : State) (tag : Tag) : Advances s (s.dropHead tag) :=
  .post (((Advances.refl s).setStore { s.store with commitQ := s.store.commitQ.tail } rfl).trans (.setStoreState _ _ _)) _

theorem Advances.endCommit (s : State) (tag : Tag) (changed : Bool) (st : StoreState) :
    Advances s (s.endCommit tag changed st) := by
  have h := (Advances.refl s).setStore { s.store with
    commitQ := if changed then s.store.commitQ.tail ++ [tag] else s.store.commitQ.tail } rfl
  exact (h.trans (.setStoreState _ tag (if changed then .dirty else st))).trans (.of_frame rfl rfl)

theorem Advances.clearStored (s : State) : Advances s s.clearStored := by
  have heq : s.clearStored.table = { s.table with entries := s.table.entries.map fun e =>
      { e with storeState := if e.persistent then .unstored else e.storeState } } := by
    refine congrArg (RecordTable.mk · s.table.summary) (List.map_congr_left fun e _ => ?_)
    split_ifs <;> rfl
  exact ⟨heq ▸ .single (.setStores _), rfl⟩

theorem Advances.nextWipe (s : State) (pair : Nat) (allFreed : Bool) : Advances s (s.nextWipe pair allFreed) := by
  refine .of_frame (by simp) ?_
  simp only [State.nextWipe, State.freeEngine]
  split_ifs <;> simp

theorem Advances.opSucceeds (s : State) (op : StoreOp) : Advances s (s.opSucceeds op) := by
  have h1 : Advances s (s.setArray (s.store.array.written op)) := .of_frame (by simp) (by simp)
  have hfree : ∀ t, Advances s t → Advances s t.freeEngine := fun t ht => ht.trans (.of_frame (by simp) rfl)
  have hpair : ∀ t n f, Advances s t → Advances s (t.modifyPair n f) := fun t n f ht =>
    ht.trans (.of_frame (by simp) rfl)
  simp only [State.opSucceeds]
  split
  · split_ifs
    · exact hfree _ (hpair _ _ _ h1)
    · exact (hpair _ _ _ h1).trans (.endCommit _ _ _ _)
  · split_ifs
    · exact hfree _ h1
    · exact (hfree _ h1).answer _ _
  · exact (hpair _ _ _ h1).trans (.nextWipe _ _ _)
  · split_ifs
    · exact hfree _ h1
    · exact (hfree _ h1).trans (.of_frame (by simp) (by simp))

theorem Advances.opFails (s : State) (op : StoreOp) : Advances s (s.opFails op) := by
  have hfree : Advances s s.freeEngine := .of_frame (by simp) rfl
  unfold State.opFails State.opFailsFinally
  split
  · exact .of_frame (by simp) (by simp [State.rewrite])
  · split
    · split
      · exact hfree
      · exact (Advances.endCommit _ _ _ _).post _
    · split
      · exact hfree
      · exact hfree.answer _ _
    · exact .trans (t := s.modifyPair _ PairMapEntry.spoil) (.of_frame (by simp) rfl) (.nextWipe _ _ _)
    · split
      · exact hfree
      · exact (hfree.post (.commitFailed none .verify)).trans (.of_frame (by simp) (by simp))

theorem execWriteDone_advances (current good : Bool) (s : State) : Meets (execWriteDone current good s) (Advances s) := by
  refine .next ?_
  split
  · exact .refl s
  · split_ifs
    · exact .refl s
    · exact .opSucceeds s _
    · exact .trans (.of_frame (by simp) (by simp)) (.opFails _ _)

theorem execWriteLimit_advances (s : State) : Meets (execWriteLimit s) (Advances s) := by
  refine .next ?_
  split
  · exact .refl s
  · split_ifs
    · exact .refl s
    · exact .trans (.of_frame (by simp) (by simp)) (.opFails _ _)

theorem execCommitStart_advances (s : State) : Meets (execCommitStart s) (Advances s) := by
  refine .next ?_
  split_ifs
  · split
    · exact .refl s
    · split
      · exact .startCommitOn s _ _
      · exact .dropHead s _
      · exact .refl s
  · exact .refl s

theorem execConfigWriteStart_advances (s : State) : Meets (execConfigWriteStart s) (Advances s) := by
  refine .next ?_
  split
  · split_ifs
    · exact .of_frame (by simp) (by simp [State.beginOp])
    · exact .refl s
  · exact .refl s

theorem execWipeStart_advances (s : State) : Meets (execWipeStart s) (Advances s) := by
  refine .next ?_
  split
  · split_ifs
    · refine .trans (t := s.setStore { s.store with request := none }) (.of_frame rfl rfl) ?_
      exact (Advances.clearStored _).trans (.of_frame (by simp) (by simp [State.beginOp]))
    · exact .refl s
  · exact .refl s

/-! ### Station Control -/

theorem Advances.startCuttingOp (s : State) : Advances s s.startCuttingOp :=
  (Advances.abandonOp s).trans (.of_frame rfl rfl)

theorem Advances.startKeepingOp (s : State) (cause : StartCause) : Advances s (s.startKeepingOp cause) := by
  refine .of_frame (by simp) ?_
  simp only [State.startKeepingOp, State.discardOp]
  split <;> rfl

theorem Advances.toFrozen (s : State) : Advances s s.toFrozen := by
  have hquiesce : Advances s (if s.control.quiesceWaiting then s.completeQuiesce else s) := by
    split_ifs
    · exact .of_frame (by simp) (by simp)
    · exact .refl s
  have hcut : ∀ t : State, Advances t ((t.cutFrame.setFe .initial).setLine t.cutFrame.line.restart) := fun t =>
    .of_frame (by simp) (by simp)
  have habandon := (hquiesce.trans (hcut _)).trans (.abandonOp _)
  simp only [State.toFrozen]
  exact habandon.trans (.of_frame (by simp) (by simp))

theorem execSupplyLow_advances (lasting : Bool) (s : State) : Meets (execSupplyLow s lasting) (Advances s) := by
  have hpin : ∀ b, Advances s { s with pfailPin := b } := fun b => .of_frame rfl rfl
  have hlow : ∀ t : State, Advances t t.takeSupplyLow := by
    intro t
    unfold State.takeSupplyLow
    split
    · exact .toFrozen t
    · exact .startCuttingOp t
  have hwatch : ∀ (t : State) w, Advances t (t.setWatch w) := fun t w => .of_frame (by simp) (by simp)
  refine .next ?_
  split_ifs
  · unfold State.pfailEdge
    split_ifs
    · exact .refl s
    · exact .of_frame rfl rfl
  · exact hpin _
  · split
    · exact (hpin _).trans (hwatch _ _)
    · exact (hpin _).trans (hwatch _ _)
    all_goals exact (hpin _).trans (hlow _)

theorem execSupplyGood_advances (lasting : Bool) (s : State) : Meets (execSupplyGood s lasting) (Advances s) := by
  refine .next ?_
  split_ifs
  · unfold State.pfailEdge
    split_ifs
    · exact .refl s
    · exact .of_frame rfl rfl
  · exact .of_frame rfl rfl
  · exact .of_frame (by simp) (by simp)
  · exact .of_frame (by simp) (by simp)

theorem execResetAssert_advances (lasting : Bool) (s : State) : Meets (execResetAssert lasting s) (Advances s) := by
  have hstart (t : State) (h : Advances s t) : Advances s ({ t with resetPin := true }.startKeepingOp .pin) :=
    h.trans (.trans (t := { t with resetPin := true }) (.of_frame rfl rfl) (.startKeepingOp _ _))
  have hfree : Advances s (s.useFree 1) := .of_frame rfl rfl
  refine .next ?_
  cases lasting with
  | true => exact hstart s (.refl s)
  | false =>
    split
    · exact hstart _ hfree
    · exact hfree

/-! ### All commands -/

theorem exec_advances (c : Instr) (hc : c ≠ .startSequence) (s : State) : Meets (exec c s) (Advances s) := by
  by_cases hq : quietCommand c = true
  · exact (exec_quiet c hq s).mono fun t h => h.advances
  have hanswer : ∀ (c : ResultCode) (t : State) (d : List Byte), Advances t (t.answer c d) := fun c t d =>
    (Advances.refl t).answer c d
  cases c
  case read args => exact .next (.request s _ _ _ _ _ fun t => .of_frame (by simp) (by simp))
  case nextTag args => exact .next (.request s _ _ _ _ _ fun t => .of_frame (by simp) (by simp))
  case write args => exact .next (.request s _ _ _ _ _ fun t => .ownerWrite args t)
  case watch args => exact .next (.request s _ _ _ _ _ fun t => .ownerWatch args t)
  case status args => exact .next (.request s _ _ _ _ _ fun t => hanswer _ t _)
  case peers args => exact .next (.request s _ _ _ _ _ fun t => hanswer _ t _)
  case notice args => exact .next (.request s _ _ _ _ _ fun t => .of_frame (by simp) (by simp))
  case quiesce args => exact .next (.request s _ _ _ _ _ fun t => .of_frame (by simp) (by simp))
  case resume args => exact .next (.request s _ _ _ _ _ fun t => .of_frame (by simp) (by simp))
  case configRead args => exact .next (.request s _ _ _ _ _ fun t => hanswer _ t _)
  case configWrite args =>
    refine .next (.request s _ _ _ _ _ fun t => .of_frame (by simp) ?_)
    unfold State.ownerConfigWrite
    (repeat' split) <;> simp
  case wipe args =>
    refine .next (.request s _ _ _ _ _ fun t => .of_frame (by simp) ?_)
    unfold State.ownerWipe
    split <;> simp
  case restart args => exact .next (.request s _ _ _ _ _ fun t => .startKeepingOp t _)
  case notACommandCode code args =>
    refine .next ?_
    split_ifs
    · exact .refl s
    · exact .request s _ _ _ _ _ fun t => .refl t
  case fetch clocked =>
    refine .next (.of_frame ?_ ?_) <;> simp
  case publishFrame => exact execPublishFrame_advances s
  case lateLossConfirmed => exact execLateLossConfirmed_advances s
  case duplicateId =>
    refine .next ?_
    split_ifs <;> exact .of_frame (by simp) (by simp)
  case busStuck =>
    refine .next ?_
    split_ifs <;> exact .of_frame (by simp) (by simp)
  case busRecovered =>
    refine .next ?_
    split_ifs <;> exact .of_frame (by simp) (by simp)
  case joinComplete =>
    refine .next ?_
    split_ifs <;> exact .of_frame (by simp) (by simp)
  case quiesceComplete =>
    refine .next (.of_frame ?_ ?_) <;> split_ifs <;> simp
  case powerUp pfail =>
    exact .next (.trans (t := { s with pfailPin := pfail }) (.of_frame rfl rfl) (.startCuttingOp _))
  case resetAssert lasting => exact execResetAssert_advances lasting s
  case startSequence => exact absurd rfl hc
  case supplyLow lasting => exact execSupplyLow_advances lasting s
  case supplyGood lasting => exact execSupplyGood_advances lasting s
  case commitStart => exact execCommitStart_advances s
  case configWriteStart => exact execConfigWriteStart_advances s
  case wipeStart => exact execWipeStart_advances s
  case writeDone current good => exact execWriteDone_advances current good s
  case writeLimit => exact execWriteLimit_advances s
  all_goals exact absurd rfl hq

end Sys2Proof.Machine
end

section
/-! SUPPORT. A sound Record Table: what putting an entry in does to its order, its figures and its soundness; and the two
statements on the table that every step or command keeps. -/

namespace Sys2Proof.Machine

/-! ### Order and figures of a list of entries -/

/-- R4: the entries stand in ascending tag order. -/
def Ascending (l : List Entry) : Prop :=
  l.Pairwise fun a b => a.tag.toNat < b.tag.toNat

theorem ascendingTags_iff (l : List Tag) : ascendingTags l = true ↔ l.Pairwise fun a b => a.toNat < b.toNat := by
  induction l with
  | nil => simp [ascendingTags]
  | cons a rest ih =>
    cases rest with
    | nil => simp [ascendingTags]
    | cons b rest =>
      simp only [ascendingTags, Bool.and_eq_true, decide_eq_true_eq, ih]
      rw [List.pairwise_cons (a := a)]
      constructor
      · rintro ⟨hab, hb⟩
        refine ⟨fun x hx => ?_, hb⟩
        rcases List.mem_cons.1 hx with rfl | hx
        · exact hab
        · exact hab.trans (List.rel_of_pairwise_cons hb hx)
      · exact fun ⟨ha, hb⟩ => ⟨ha b (by simp), hb⟩

theorem ascendingTags_map_tag (l : List Entry) : ascendingTags (l.map (·.tag)) = true ↔ Ascending l := by
  rw [ascendingTags_iff, List.pairwise_map]
  rfl

/-- The first entry of an ascending list bears none of the lower tags, and neither does a later one. -/
theorem Ascending.find_lower {x : Entry} {rest : List Entry} (h : Ascending (x :: rest)) {tag : Tag}
    (hlt : tag.toNat < x.tag.toNat) : (x :: rest).find? (fun y => y.tag == tag) = none := by
  rw [List.find?_eq_none]
  intro y hy hc
  have hyt : y.tag = tag := by simpa using hc
  rcases List.mem_cons.1 hy with rfl | hy
  · rw [hyt] at hlt
    exact absurd hlt (lt_irrefl _)
  · have := List.rel_of_pairwise_cons h hy
    rw [hyt] at this
    omega

/-- In an ascending list the entry found for a tag is the one that bears it. -/
theorem Ascending.find_mem {l : List Entry} (h : Ascending l) {e : Entry} (he : e ∈ l) :
    l.find? (fun y => y.tag == e.tag) = some e := by
  induction l with
  | nil => simp at he
  | cons x rest ih =>
    rcases List.mem_cons.1 he with rfl | hmem
    · simp
    · have hlt := List.rel_of_pairwise_cons h hmem
      have hne : (x.tag == e.tag) = false := by
        simp only [beq_eq_false_iff_ne, ne_eq]
        intro hc
        rw [hc] at hlt
        exact absurd hlt (lt_irrefl _)
      rw [List.find?_cons, hne]
      exact ih h.of_cons hmem

theorem mem_insertEntry {e x : Entry} {l : List Entry} (h : x ∈ insertEntry e l) : x = e ∨ x ∈ l := by
  induction l with
  | nil => simpa [insertEntry] using h
  | cons y rest ih =>
    unfold insertEntry at h
    split_ifs at h with hlt hsame
    · simpa using h
    · rcases List.mem_cons.1 h with rfl | h
      · exact .inl rfl
      · exact .inr (List.mem_cons_of_mem _ h)
    · rcases List.mem_cons.1 h with rfl | h
      · exact .inr (by simp)
      · exact (ih h).imp_right (List.mem_cons_of_mem _)

/-- R4: an entry put into an ascending list leaves it ascending. -/
theorem Ascending.insertEntry {l : List Entry} (h : Ascending l) (e : Entry) : Ascending (insertEntry e l) := by
  induction l with
  | nil => exact List.pairwise_singleton _ _
  | cons x rest ih =>
    have hrest := List.pairwise_cons.1 h
    unfold Machine.insertEntry
    split_ifs with hlt hsame
    · refine List.pairwise_cons.2 ⟨fun y hy => ?_, h⟩
      rcases List.mem_cons.1 hy with rfl | hy
      · exact hlt
      · exact hlt.trans (hrest.1 y hy)
    · have htag : e.tag = x.tag := by simpa using hsame
      exact List.pairwise_cons.2 ⟨fun y hy => by rw [htag]; exact hrest.1 y hy, hrest.2⟩
    · refine List.pairwise_cons.2 ⟨fun y hy => ?_, ih h.of_cons⟩
      rcases mem_insertEntry hy with rfl | hy
      · have hne : y.tag.toNat ≠ x.tag.toNat := fun hc => hsame (by simpa using BitVec.eq_of_toNat_eq hc)
        omega
      · exact hrest.1 y hy

/-- R6: any figure summed over the entries: an entry put in adds its own and takes off that of the one it replaces. -/
theorem Ascending.sum_insertEntry {M : Type} [AddCommMonoid M] (g : Entry → M) {l : List Entry} (h : Ascending l) (e : Entry) :
    ((Machine.insertEntry e l).map g).sum + ((l.find? fun x => x.tag == e.tag).map g).getD 0 = (l.map g).sum + g e := by
  induction l with
  | nil => simp [Machine.insertEntry]
  | cons x rest ih =>
    unfold Machine.insertEntry
    split_ifs with hlt hsame
    · rw [h.find_lower hlt]
      simp [add_comm]
    · rw [BEq.comm] at hsame
      simp only [List.find?_cons, hsame, List.map_cons, List.sum_cons, Option.map_some, Option.getD_some]
      abel
    · have htag : (x.tag == e.tag) = false := by rw [BEq.comm]; simpa using hsame
      rw [List.find?_cons, htag]
      have ih := ih h.of_cons
      simp only [List.map_cons, List.sum_cons, add_assoc, ih]

theorem totalTerms_eq_sum (l : List Entry) : totalTerms l = (l.map Entry.term).sum := by
  induction l with
  | nil => rfl
  | cons e rest ih => simpa [totalTerms] using ih

/-! ### Sound tables -/

theorem RecordTable.sound_iff (t : RecordTable) : t.sound = true ↔
    Ascending t.entries ∧ (∀ e ∈ t.entries, e.sound = true) ∧ t.entries.length ≤ maxEntries ∧
      t.summary = totalTerms t.entries := by
  simp [RecordTable.sound, ascendingTags_map_tag, and_assoc]

theorem RecordTable.find_mem {t : RecordTable} {tag : Tag} {e : Entry} (h : t.find tag = some e) : e ∈ t.entries :=
  List.mem_of_find?_eq_some h

theorem RecordTable.find_sound {t : RecordTable} (h : t.sound = true) {tag : Tag} {e : Entry} (he : t.find tag = some e) :
    e.sound = true :=
  (t.sound_iff.1 h).2.1 e (find_mem he)

/-- In a sound table the entry held for a tag is the one that bears it. -/
theorem RecordTable.find_iff {t : RecordTable} (h : t.sound = true) (e : Entry) : t.find e.tag = some e ↔ e ∈ t.entries :=
  ⟨find_mem, (t.sound_iff.1 h).1.find_mem⟩

/-- A figure of a sound table after an entry is put in. -/
theorem RecordTable.sum_put {M : Type} [AddCommMonoid M] (g : Entry → M) {t : RecordTable} (h : t.sound = true) (e : Entry) :
    ((t.put e).entries.map g).sum + ((t.find e.tag).map g).getD 0 = (t.entries.map g).sum + g e :=
  (t.sound_iff.1 h).1.sum_insertEntry g e

/-- R4: an entry for an absent tag adds one to the table, and one for a held tag none. -/
theorem RecordTable.put_length {t : RecordTable} (h : t.sound = true) (e : Entry) :
    (t.put e).entries.length = t.entries.length + if t.find e.tag = none then 1 else 0 := by
  have hsum := sum_put (fun _ => 1) h e
  simp only [List.map_const', List.sum_replicate, smul_eq_mul, mul_one] at hsum
  cases hf : t.find e.tag with
  | none => simpa [hf] using hsum
  | some x => simpa [hf] using hsum

/-- R6: an entry put into an ascending list keeps the summary the sum of the terms. -/
theorem RecordTable.put_totalTerms {t : RecordTable} (hasc : Ascending t.entries) (hsum : t.summary = totalTerms t.entries)
    (e : Entry) : (t.put e).summary = totalTerms (t.put e).entries := by
  have hterms := hasc.sum_insertEntry Entry.term e
  have hheld : t.heldTerm e.tag = ((t.entries.find? fun x => x.tag == e.tag).map Entry.term).getD 0 := by
    unfold RecordTable.heldTerm RecordTable.find
    cases t.entries.find? fun x => x.tag == e.tag <;> rfl
  rw [put_summary, hsum, totalTerms_eq_sum, totalTerms_eq_sum, hheld, sub_add_eq_add_sub, sub_eq_iff_eq_add]
  exact hterms.symm

/-- R4, R5, R6: a sound entry put in where it has room leaves the table sound. -/
theorem RecordTable.put_sound {t : RecordTable} (h : t.sound = true) {e : Entry} (he : e.sound = true)
    (hroom : t.find e.tag = none → t.entries.length < maxEntries) : (t.put e).sound = true := by
  have hlen := put_length h e
  obtain ⟨hasc, hall, hcap, hsum⟩ := t.sound_iff.1 h
  refine (t.put e).sound_iff.2 ⟨hasc.insertEntry e, fun x hx => ?_, ?_, ?_⟩
  · rcases mem_insertEntry hx with rfl | hx
    · exact he
    · exact hall x hx
  · rw [hlen]
    split_ifs with hn
    · have := hroom hn
      omega
    · omega
  · exact put_totalTerms hasc hsum e

/-- A revision of a sound entry is sound. -/
theorem Entry.Revises.sound {e held : Entry} (h : e.Revises held) (htag : e.tag = held.tag) (hs : held.sound = true) :
    e.sound = true := by
  obtain ⟨hrec, hversion, hlen, howner⟩ := held.sound_iff.1 hs
  refine e.sound_iff.2 ⟨htag ▸ hrec, ?_⟩
  obtain ⟨hpair, hvalue⟩ | ⟨hlater, hvalue, horigin⟩ := h.content
  · exact ⟨hpair ▸ hversion, hvalue ▸ hlen, by rw [h.owner, h.cls, hpair, howner]⟩
  · refine ⟨fun hc => ?_, hvalue, ?_⟩
    · simp only [OrderPair.later, hc, Bool.or_eq_true, decide_eq_true_eq, Bool.and_eq_true, beq_iff_eq] at hlater
      rcases hlater with hlt | ⟨heq, -⟩
      · simp at hlt
      · exact hversion heq.symm
    · split_ifs with howned
      · exact horigin howned
      · rw [h.owner, howner, if_neg (h.cls ▸ howned)]

theorem TableStep.sound {t t' : RecordTable} (h : TableStep t t') (hs : t.sound = true) : t'.sound = true := by
  cases h with
  | create e absent room sound => exact RecordTable.put_sound hs sound fun _ => room
  | revise e held hheld revises =>
    refine RecordTable.put_sound hs (revises.sound (RecordTable.find_tag hheld).symm (RecordTable.find_sound hs hheld)) ?_
    simp [hheld]
  | setStores f =>
    obtain ⟨hasc, hall, hcap, hsum⟩ := t.sound_iff.1 hs
    refine (RecordTable.sound_iff _).2 ⟨List.pairwise_map.2 hasc, fun x hx => ?_, by simpa using hcap, ?_⟩
    · obtain ⟨e, he, rfl⟩ := List.mem_map.1 hx
      exact hall e he
    · rw [totalTerms_eq_sum, List.map_map]
      exact hsum.trans (totalTerms_eq_sum _)

theorem RecordTable.Evolves.sound {t t' : RecordTable} (h : t.Evolves t') (hs : t.sound = true) : t'.sound = true := by
  induction h with
  | refl => exact hs
  | tail _ hstep ih => exact hstep.sound ih

/-! ### The load scan (R21, R137, R151) -/

/-- R137: what a VALID slot's copy has met. -/
theorem SlotContent.copy?_eq_some {c : SlotContent} {i : SlotImage} : c.copy? = some i ↔ c = .copy i ∧ i.valid = true := by
  cases c with
  | copy j =>
    simp only [SlotContent.copy?, SlotContent.copy.injEq]
    split_ifs with hv
    · simp only [Option.some.injEq]
      exact ⟨fun h => ⟨h, h ▸ hv⟩, fun h => h.1⟩
    · simp only [false_iff, not_and]
      exact fun h hi => hv (h ▸ hi)
  | _ => simp [SlotContent.copy?]

theorem PairSlots.selected_valid {p : PairSlots} {i : SlotImage} (h : p.selected = some i) : i.valid = true := by
  unfold PairSlots.selected at h
  split at h
  · exact (SlotContent.copy?_eq_some.1 h).2
  · exact (SlotContent.copy?_eq_some.1 h).2
  · cases h

/-- R21: the entry made from a valid copy is sound. -/
theorem SlotImage.entry_sound {i : SlotImage} (h : i.valid = true) : i.entry.sound = true := by
  simp only [SlotImage.valid, Bool.and_eq_true, bne_iff_ne, ne_eq, decide_eq_true_eq] at h
  obtain ⟨⟨⟨-, htag⟩, hversion⟩, hlen⟩ := h
  have hvalue : (i.value.take i.length.toNat).length ≤ maxLength := (List.length_take_le _ _).trans hlen
  exact i.entry.sound_iff.2 ⟨htag, hversion, hvalue, rfl⟩

/-- R151: what one more pair does to the table being loaded. -/
def loadPair (t : RecordTable) (p : PairSlots) : RecordTable :=
  match p.selected with
  | some i => t.put i.entry
  | none => t

theorem loadTable_eq_foldl (pairs : List PairSlots) : loadTable pairs = pairs.foldl loadPair .initial :=
  rfl

/-- R151: the load of at most 96 copies into a sound table with room for them keeps it sound, and its entries within the number
of copies read. -/
theorem foldl_loadPair_sound (pairs : List PairSlots) (t : RecordTable) (hs : t.sound = true)
    (hroom : t.entries.length + pairs.length ≤ maxEntries) :
    (pairs.foldl loadPair t).sound = true ∧ (pairs.foldl loadPair t).entries.length ≤ t.entries.length + pairs.length := by
  induction pairs generalizing t with
  | nil => exact ⟨hs, le_refl _⟩
  | cons p rest ih =>
    rw [List.length_cons] at hroom ⊢
    have hp : (loadPair t p).sound = true ∧ (loadPair t p).entries.length ≤ t.entries.length + 1 := by
      unfold loadPair
      split
      · rename_i i hi
        refine ⟨RecordTable.put_sound hs (SlotImage.entry_sound (p.selected_valid hi)) fun _ => by omega, ?_⟩
        rw [RecordTable.put_length hs]
        split_ifs <;> omega
      · exact ⟨hs, by omega⟩
    obtain ⟨hsound, hlen⟩ := ih (loadPair t p) hp.1 (by omega)
    exact ⟨hsound, by rw [List.foldl_cons]; omega⟩

theorem loadTable_sound (pairs : List PairSlots) (h : pairs.length ≤ maxEntries) : (loadTable pairs).sound = true :=
  (foldl_loadPair_sound pairs .initial (by decide) (by simpa [RecordTable.initial] using h)).1

theorem loadTable_length (pairs : List PairSlots) (h : pairs.length ≤ maxEntries) :
    (loadTable pairs).entries.length ≤ pairs.length := by
  have hl := (foldl_loadPair_sound pairs .initial (by decide) (by simpa [RecordTable.initial] using h)).2
  simpa [RecordTable.initial, loadTable_eq_foldl] using hl

/-! ### O4 and O10 -/

theorem State.tableInv_iff (s : State) :
    s.tableInv = true ↔ s.table.sound = true ∧ s.store.array.pairs.length = maxPlaces := by
  simp [State.tableInv]

theorem Advances.tableInv {s t : State} (h : Advances s t) (hs : s.tableInv = true) : t.tableInv = true := by
  obtain ⟨hsound, hpairs⟩ := s.tableInv_iff.1 hs
  exact t.tableInv_iff.2 ⟨h.table.sound hsound, h.pairs.trans hpairs⟩

/-- R151: the load scan of 48 pairs makes a sound table. -/
theorem State.runStart_tableInv (s : State) (hs : s.tableInv = true) : s.runStart.tableInv = true := by
  obtain ⟨-, hpairs⟩ := s.tableInv_iff.1 hs
  refine s.runStart.tableInv_iff.2 ⟨?_, ?_⟩
  · exact loadTable_sound _ (by rw [hpairs]; decide)
  · simpa [State.runStart, State.beginOp] using hpairs

theorem exec_tableInv (c : Instr) (s : State) (hs : s.tableInv = true) : Meets (exec c s) (·.tableInv = true) := by
  by_cases hc : c = .startSequence
  · subst hc
    refine .next ?_
    split_ifs
    · exact s.runStart_tableInv hs
    · exact hs
  · exact (exec_advances c hc s).mono fun t h => h.tableInv hs

/-- Settles O4: every command keeps the table's invariant, since it changes the table by revisions, creations and
loads alone. -/
theorem tableInvariantKept : Obligations.TableInvariantKept := by
  intro s t hs ht
  exact (step_preserves (P := (·.tableInv = true)) (fun _ _ h => h) (fun _ h => h) exec_tableInv hs).of_eq ht

theorem OrderPair.later_trans {p q r : OrderPair} (h : p.later q = true) (h' : q.later r = true) : p.later r = true := by
  simp only [OrderPair.later, Bool.or_eq_true, decide_eq_true_eq, Bool.and_eq_true, beq_iff_eq] at *
  rcases h with h | ⟨hv, ho⟩ <;> rcases h' with h' | ⟨hv', ho'⟩
  · exact .inl (h'.trans h)
  · exact .inl (hv' ▸ h)
  · exact .inl (hv ▸ h')
  · exact .inr ⟨hv.trans hv', ho'.trans ho⟩

/-- R2, R5: what becomes of a held entry: its attributes stay, and its value changes with a later pair only. -/
structure Entry.Succeeds (e held : Entry) : Prop where
  cls : e.cls = held.cls
  persistent : e.persistent = held.persistent
  owner : e.owner = held.owner
  content : (e.pair = held.pair ∧ e.value = held.value) ∨ e.pair.later held.pair = true

theorem Entry.Succeeds.refl (e : Entry) : e.Succeeds e :=
  ⟨rfl, rfl, rfl, .inl ⟨rfl, rfl⟩⟩

theorem Entry.Succeeds.trans {e f g : Entry} (h : f.Succeeds e) (h' : g.Succeeds f) : g.Succeeds e := by
  refine ⟨h'.cls.trans h.cls, h'.persistent.trans h.persistent, h'.owner.trans h.owner, ?_⟩
  rcases h.content with ⟨hp, hv⟩ | hl <;> rcases h'.content with ⟨hp', hv'⟩ | hl'
  · exact .inl ⟨hp'.trans hp, hv'.trans hv⟩
  · exact .inr (hp ▸ hl')
  · exact .inr (hp' ▸ hl)
  · exact .inr (OrderPair.later_trans hl' hl)

theorem TableStep.succeeds {t t' : RecordTable} (h : TableStep t t') {tag : Tag} {e : Entry} (he : t.find tag = some e) :
    ∃ e', t'.find tag = some e' ∧ e'.Succeeds e := by
  cases h with
  | create new absent room sound =>
    refine ⟨e, ?_, .refl e⟩
    have hne : tag ≠ new.tag := by
      rintro rfl
      simp [absent] at he
    simpa [hne] using he
  | revise new held hheld revises =>
    by_cases hne : tag = new.tag
    · subst hne
      obtain rfl : held = e := by simpa [hheld] using he
      exact ⟨new, by simp, revises.cls, revises.persistent, revises.owner, revises.content.imp_right fun h => h.1⟩
    · exact ⟨e, by simpa [hne] using he, .refl e⟩
  | setStores f =>
    refine ⟨{ e with storeState := f e }, ?_, rfl, rfl, rfl, .inl ⟨rfl, rfl⟩⟩
    have hcomp : ((fun e : Entry => e.tag == tag) ∘ fun e : Entry => { e with storeState := f e }) =
      fun e => e.tag == tag := rfl
    simp only [RecordTable.find] at he ⊢
    rw [List.find?_map, hcomp, he]
    rfl

theorem RecordTable.Evolves.succeeds {t t' : RecordTable} (h : t.Evolves t') {tag : Tag} {e : Entry}
    (he : t.find tag = some e) : ∃ e', t'.find tag = some e' ∧ e'.Succeeds e := by
  induction h with
  | refl => exact ⟨e, he, .refl e⟩
  | tail _ hstep ih =>
    obtain ⟨e', he', hs⟩ := ih
    obtain ⟨e'', he'', hs'⟩ := hstep.succeeds he'
    exact ⟨e'', he'', hs.trans hs'⟩

/-- Settles O10: no command but the load scan changes the table otherwise than by creations, revisions and store states. -/
theorem heldRecordsNeverGoBack : Obligations.HeldRecordsNeverGoBack := by
  intro c s t tag e ht hc he
  obtain ⟨e', he', hs⟩ := ((exec_advances c hc s).of_eq ht).table.succeeds he
  exact ⟨e', he', hs.cls, hs.persistent, hs.owner, hs.content⟩

end Sys2Proof.Machine
end

section
/-! SUPPORT. The Commit Queue's books: the standing of each record with the store, the queue, and the operation the engine
carries; and what each change of the table, the queue, the engine or the link state does to them. -/

namespace Sys2Proof.Machine

/-! ### A record's standing with the store -/

/-- Table 5: whether the record held for a tag is persistent, and its store state. -/
def RecordTable.standing (t : RecordTable) (tag : Tag) : Option (Bool × StoreState) :=
  (t.find tag).map fun e => (e.persistent, e.storeState)

/-- R12: the places a record of this standing takes. -/
def placesOf : Option (Bool × StoreState) → Nat
  | some (true, .unstored) => 0
  | some (true, _) => 1
  | _ => 0

theorem RecordTable.standing_of_find {t : RecordTable} {tag : Tag} {e : Entry} (h : t.find tag = some e) :
    t.standing tag = some (e.persistent, e.storeState) := by
  simp [standing, h]

@[simp] theorem RecordTable.standing_put (t : RecordTable) (e : Entry) (u : Tag) :
    (t.put e).standing u = if u = e.tag then some (e.persistent, e.storeState) else t.standing u := by
  simp only [standing, find_put]
  split_ifs <;> rfl

theorem Entry.placesOf_standing (e : Entry) :
    placesOf (some (e.persistent, e.storeState)) = if e.holdsPlace then 1 else 0 := by
  unfold Entry.holdsPlace
  cases e.persistent <;> cases e.storeState <;> rfl

theorem RecordTable.places_eq_sum (t : RecordTable) :
    t.places = (t.entries.map fun e => placesOf (some (e.persistent, e.storeState))).sum := by
  simp only [places, Entry.placesOf_standing]
  induction t.entries with
  | nil => rfl
  | cons e rest ih =>
    rw [List.filter_cons, List.map_cons, List.sum_cons, ← ih]
    split_ifs <;> simp [add_comm]

/-- R12: the places taken after an entry is put in. -/
theorem RecordTable.places_put {t : RecordTable} (h : t.sound = true) (e : Entry) :
    (t.put e).places + placesOf (t.standing e.tag) = t.places + placesOf (some (e.persistent, e.storeState)) := by
  have hsum := sum_put (fun e => placesOf (some (e.persistent, e.storeState))) h e
  rw [places_eq_sum, places_eq_sum, ← hsum]
  unfold standing
  cases t.find e.tag <;> rfl

theorem RecordTable.placeFree_iff (t : RecordTable) : t.placeFree = true ↔ t.places < maxPlaces := by
  simp [placeFree, places]

theorem RecordTable.awaitsCommit_iff (t : RecordTable) (u : Tag) :
    t.awaitsCommit u = true ↔ t.standing u = some (true, .dirty) ∨ t.standing u = some (true, .committing) := by
  unfold awaitsCommit standing
  cases t.find u with
  | none => simp
  | some e => simp [Bool.and_eq_true, ← and_or_left]

theorem RecordTable.commits_iff (t : RecordTable) (u : Tag) :
    t.commits u = true ↔ t.standing u = some (true, .committing) := by
  unfold commits standing
  cases t.find u with
  | none => simp
  | some e => simp [Bool.and_eq_true]

/-- No record is COMMITTING. -/
def RecordTable.NoneCommitting (t : RecordTable) : Prop :=
  ∀ u b, t.standing u ≠ some (b, .committing)

/-- R21: a load makes every record CLEAN. -/
theorem loadTable_noneCommitting (pairs : List PairSlots) : (loadTable pairs).NoneCommitting := by
  suffices h : ∀ t : RecordTable, t.NoneCommitting → (pairs.foldl loadPair t).NoneCommitting from
    h _ fun u b hu => by simp [RecordTable.standing, RecordTable.find, RecordTable.initial] at hu
  induction pairs with
  | nil => exact fun t ht => ht
  | cons p rest ih =>
    refine fun t ht => ih _ fun u b => ?_
    unfold loadPair
    split
    · rw [RecordTable.standing_put]
      split_ifs
      · simp [SlotImage.entry]
      · exact ht u b
    · exact ht u b

/-! ### The books -/

/-- The engine's write of a start's incarnation, by its operation. -/
theorem WriteEngine.endsStart_iff (g : WriteEngine) :
    g.endsStart = true ↔ g.discard = false ∧ ∃ slot v, g.op = some (.incarnation slot v) := by
  unfold endsStart
  split
  · rename_i slot v h
    simp [h]
  · rename_i h
    simp only [Bool.false_eq_true, false_iff, not_and, not_exists]
    exact fun _ slot v hc => h slot v hc

/-- R143: the changed mark makes no incarnation write of a commit, nor the other way. -/
@[simp] theorem WriteEngine.markChanged_endsStart (g : WriteEngine) (tag : Tag) :
    (g.markChanged tag).endsStart = g.endsStart := by
  unfold markChanged
  split
  · rename_i h
    simp [endsStart, h]
  · rfl

/-- R12, R141, R142, R150: of a table, a Commit Queue, a write engine and a link state. -/
structure Books (t : RecordTable) (q : List Tag) (g : WriteEngine) (l : LinkState) : Prop where
  places : t.places ≤ maxPlaces
  nodup : q.Nodup
  queued : ∀ u ∈ q, t.standing u = some (true, .dirty) ∨ t.standing u = some (true, .committing)
  empty : l = .start → q = []
  head : l ≠ .start ∨ g.endsStart = true → ∀ u b, t.standing u = some (b, .committing) → q.head? = some u
  discard : g.discard = true → l = .start
  carried : ∀ u pair target image changed, g.op = some (.commit u pair target image changed) →
    t.standing u = some (true, .committing) ∧ (g.discard = true ∨ q.head? = some u)

namespace Books

variable {t t' : RecordTable} {q : List Tag} {g g' : WriteEngine} {l l' : LinkState}

theorem restand (h : Books t q g l) (hstanding : ∀ u, t'.standing u = t.standing u) (hplaces : t'.places = t.places) :
    Books t' q g l where
  places := hplaces ▸ h.places
  nodup := h.nodup
  queued u hu := by rw [hstanding]; exact h.queued u hu
  empty := h.empty
  head hl u b hu := h.head hl u b (by rw [← hstanding]; exact hu)
  discard := h.discard
  carried u p s i c hop := by rw [hstanding]; exact h.carried u p s i c hop

/-- R141: at most 48 tags wait, since each is that of a record with a store place. -/
theorem length_le (h : Books t q g l) : q.length ≤ maxPlaces := by
  have hsub : q ⊆ (t.entries.filter Entry.holdsPlace).map (·.tag) := by
    intro u hu
    have hq := h.queued u hu
    cases hf : t.find u with
    | none => simp [RecordTable.standing, hf] at hq
    | some e =>
      refine List.mem_map.2 ⟨e, List.mem_filter.2 ⟨RecordTable.find_mem hf, ?_⟩, RecordTable.find_tag hf⟩
      rw [RecordTable.standing_of_find hf] at hq
      simp only [Option.some.injEq, Prod.mk.injEq] at hq
      rcases hq with ⟨hp, hs⟩ | ⟨hp, hs⟩ <;> simp [Entry.holdsPlace, hp, hs]
  have hlen := (h.nodup.subperm hsub).length_le
  rw [List.length_map] at hlen
  exact hlen.trans h.places

/-- Off START every COMMITTING record is persistent. -/
theorem persistent (h : Books t q g l) (hl : l ≠ .start) {u : Tag} {b : Bool} (hu : t.standing u = some (b, .committing)) :
    b = true := by
  have hmem : u ∈ q := List.mem_of_mem_head? (h.head (.inl hl) u b hu)
  rcases h.queued u hmem with hq | hq <;> simp_all

/-! ### Another engine -/

/-- The engine is changed, keeping its operation and whether its result is discarded. -/
theorem sameOp (h : Books t q g l) (hop : g'.op = g.op) (hdiscard : g'.discard = g.discard) : Books t q g' l where
  places := h.places
  nodup := h.nodup
  queued := h.queued
  empty := h.empty
  head hl := h.head (by simpa only [WriteEngine.endsStart, hop, hdiscard] using hl)
  discard := hdiscard ▸ h.discard
  carried := by rw [hop, hdiscard]; exact h.carried

/-- The engine is given no commit and no incarnation write. -/
theorem otherOp (h : Books t q g l) (hcommit : ∀ u p s i c, g'.op ≠ some (.commit u p s i c))
    (hinc : ∀ slot v, g'.op ≠ some (.incarnation slot v)) (hdiscard : g'.discard = true → l = .start) : Books t q g' l where
  places := h.places
  nodup := h.nodup
  queued := h.queued
  empty := h.empty
  head hl := h.head <| hl.imp_right fun he => by
    obtain ⟨-, slot, v, hop⟩ := g'.endsStart_iff.1 he
    exact absurd hop (hinc slot v)
  discard := hdiscard
  carried u p s i c hop := absurd hop (hcommit u p s i c)

theorem freeEngine (h : Books t q g l) : Books t q .initial l :=
  h.otherOp (by simp [WriteEngine.initial]) (by simp [WriteEngine.initial]) (by simp [WriteEngine.initial])

/-- R143: the changed mark of a commit is set. -/
theorem markChanged (h : Books t q g l) (tag : Tag) : Books t q (g.markChanged tag) l := by
  unfold WriteEngine.markChanged
  split
  · rename_i u pair target image changed hop
    have hcarried := h.carried u pair target image changed hop
    refine { h with head := fun hl => h.head (hl.imp_right fun he => ?_), discard := h.discard, carried := ?_ }
    · simp [WriteEngine.endsStart] at he
    · intro u' p s i c hop'
      cases hop'
      exact hcarried
  · exact h

/-! ### Another link state -/

theorem move (h : Books t q g l) (hl : l ≠ .start) (hl' : l' ≠ .start) : Books t q g l' where
  places := h.places
  nodup := h.nodup
  queued := h.queued
  empty := fun hc => absurd hc hl'
  head _ := h.head (.inl hl)
  discard hd := absurd (h.discard hd) hl
  carried := h.carried

/-- R157, R150: an entry to START empties the queue; an operation that goes on has its result discarded. -/
theorem enterStart (h : Books t q g l) (hop : g'.op = g.op ∧ g'.discard = true ∨ g'.op = none) :
    Books t [] g' .start where
  places := h.places
  nodup := List.nodup_nil
  queued := by simp
  empty _ := rfl
  head hl := by
    obtain ⟨hd, slot, v, hg⟩ := g'.endsStart_iff.1 (hl.resolve_left fun hc => hc rfl)
    rcases hop with ⟨-, hd'⟩ | hn
    · simp [hd'] at hd
    · simp [hn] at hg
  discard _ := rfl
  carried u p s i c hg := by
    rcases hop with ⟨hop, hd⟩ | hn
    · exact ⟨(h.carried u p s i c (hop ▸ hg)).1, .inl hd⟩
    · simp [hn] at hg

/-- R158: the table that a start has loaded shows no record COMMITTING. -/
theorem noneCommitting (h : Books t q g .start) (he : g.endsStart = true) : t.NoneCommitting := by
  intro u b hu
  have hhead := h.head (.inr he) u b hu
  rw [h.empty rfl] at hhead
  simp at hhead

/-- R158: the end of a start. -/
theorem leaveStart (h : Books t q .initial .start) (hnone : t.NoneCommitting) : Books t q .initial l' where
  places := h.places
  nodup := h.nodup
  queued := h.queued
  empty _ := h.empty rfl
  head _ u b hu := absurd hu (hnone u b)
  discard := by simp [WriteEngine.initial]
  carried := by simp [WriteEngine.initial]

/-- R151, R152: a table just loaded, with the incarnation write begun. -/
theorem loaded (hplaces : t.places ≤ maxPlaces) (hnone : t.NoneCommitting)
    (hop : ∀ u p s i c, g.op ≠ some (.commit u p s i c)) : Books t [] g .start where
  places := hplaces
  nodup := List.nodup_nil
  queued := by simp
  empty _ := rfl
  head _ u b hu := absurd hu (hnone u b)
  discard _ := rfl
  carried u p s i c hg := absurd hg (hop u p s i c)

end Books

/-! ### Marks and changes of an entry -/

theorem RecordTable.Marked.standing {t t' : RecordTable} (h : t.Marked t') (hs : t.sound = true) :
    (∀ u, t'.standing u = t.standing u) ∧ t'.places = t.places := by
  induction h with
  | refl => exact ⟨fun _ => rfl, rfl⟩
  | @tail t1 t2 hm hstep ih =>
    have hs1 := (RecordTable.Marked.evolves hm).sound hs
    obtain ⟨tag, held, watch, unsent, hheld⟩ := hstep
    have hplaces : (t1.put { held with watch := watch, unsent := unsent }).places + placesOf (t1.standing held.tag) =
        t1.places + placesOf (some (held.persistent, held.storeState)) := places_put hs1 _
    rw [standing_of_find ((find_tag hheld).symm ▸ hheld), Nat.add_right_cancel_iff] at hplaces
    refine ⟨fun u => ?_, hplaces.trans ih.2⟩
    rw [standing_put, find_tag hheld, ← ih.1 u]
    split_ifs with hu
    · rw [hu, standing_of_find hheld]
    · rfl

theorem queueCommit_nodup {q : List Tag} (h : q.Nodup) (tag : Tag) : (queueCommit q tag).Nodup := by
  unfold queueCommit
  split_ifs with hc
  · exact h
  · have hn : tag ∉ q := by simpa using hc
    exact List.nodup_append.2 ⟨h, List.nodup_singleton _, fun a ha b hb => by
      rw [List.mem_singleton.1 hb]
      exact fun he => hn (he ▸ ha)⟩

theorem mem_queueCommit {q : List Tag} {tag u : Tag} : u ∈ queueCommit q tag ↔ u ∈ q ∨ u = tag := by
  unfold queueCommit
  split_ifs with hc
  · have hm : tag ∈ q := by simpa using hc
    exact ⟨.inl, fun h => h.elim id fun he => he ▸ hm⟩
  · simp

theorem head?_queueCommit {q : List Tag} {tag u : Tag} (h : q.head? = some u) : (queueCommit q tag).head? = some u := by
  unfold queueCommit
  split_ifs
  · exact h
  · simp [List.head?_append, h]

/-- R148: an entry after the first step of a WIPE. -/
def Entry.wiped (e : Entry) : Entry :=
  if e.persistent then { e with storeState := .unstored } else e

theorem State.clearStored_table (s : State) :
    s.clearStored.table = { s.table with entries := s.table.entries.map Entry.wiped } := rfl

theorem RecordTable.find_wiped (t : RecordTable) (u : Tag) :
    RecordTable.find { t with entries := t.entries.map Entry.wiped } u = (t.find u).map Entry.wiped := by
  have htag : ∀ e : Entry, e.wiped.tag = e.tag := fun e => by unfold Entry.wiped; split_ifs <;> rfl
  simp only [RecordTable.find, List.find?_map, Function.comp_def, htag]

namespace Books

variable {t : RecordTable} {q q' : List Tag} {g : WriteEngine} {l : LinkState}

/-- R13: a record that is not COMMITTING is given another standing than COMMITTING; it waits in the queue only if that is
DIRTY. -/
theorem restate (h : Books t q g l) (hl : l ≠ .start) {e : Entry} (hbefore : ∀ b, t.standing e.tag ≠ some (b, .committing))
    (hafter : e.storeState ≠ .committing) (hplaces : (t.put e).places ≤ maxPlaces)
    (hq : q' = queueCommit q e.tag ∧ e.persistent = true ∧ e.storeState = .dirty ∨ q' = q ∧ e.tag ∉ q) :
    Books (t.put e) q' g l where
  places := hplaces
  nodup := by
    rcases hq with ⟨rfl, -⟩ | ⟨rfl, -⟩
    · exact queueCommit_nodup h.nodup _
    · exact h.nodup
  queued u hu := by
    rw [RecordTable.standing_put]
    rcases hq with ⟨rfl, hp, hd⟩ | ⟨rfl, hn⟩
    · split_ifs with hc
      · simp [hp, hd]
      · exact h.queued u ((mem_queueCommit.1 hu).resolve_right hc)
    · rw [if_neg fun hc : u = e.tag => hn (hc ▸ hu)]
      exact h.queued u hu
  empty hc := absurd hc hl
  head _ u b hu := by
    rw [RecordTable.standing_put] at hu
    split_ifs at hu with hc
    · simp only [Option.some.injEq, Prod.mk.injEq] at hu
      exact absurd hu.2 hafter
    · have hhead := h.head (.inl hl) u b hu
      rcases hq with ⟨rfl, -⟩ | ⟨rfl, -⟩
      · exact head?_queueCommit hhead
      · exact hhead
  discard := h.discard
  carried u p s i c hop := by
    obtain ⟨hstand, hhead⟩ := h.carried u p s i c hop
    rw [RecordTable.standing_put, if_neg fun hc : u = e.tag => hbefore true (hc ▸ hstand)]
    refine ⟨hstand, hhead.imp_right fun hh => ?_⟩
    rcases hq with ⟨rfl, -⟩ | ⟨rfl, -⟩
    · exact head?_queueCommit hh
    · exact hh

/-- R13, Table 8, R143: a change of an entry keeps the books. -/
theorem changeEntry (h : Books t q g l) (hs : t.sound = true) (hl : l ≠ .start) {e : Entry} (hadmits : t.Admits e)
    {after : StoreState} (hafter : after = storeStateAfter e.persistent t.placeFree ((t.find e.tag).map (·.storeState))) :
    Books (t.put { e with storeState := after }) (if after = .dirty then queueCommit q e.tag else q) g l := by
  have hplaces : (t.put { e with storeState := after }).places + placesOf (t.standing e.tag) =
      t.places + placesOf (some (e.persistent, after)) := RecordTable.places_put hs { e with storeState := after }
  have hcap := h.places
  have hqueued := h.queued e.tag
  have hheld : t.standing e.tag = ((t.find e.tag).map (·.storeState)).map fun x => (e.persistent, x) := by
    obtain ⟨hn, -⟩ | ⟨held, hf, hrev⟩ := hadmits
    · simp [RecordTable.standing, hn]
    · simp [RecordTable.standing, hf, hrev.persistent]
  generalize (t.find e.tag).map (·.storeState) = before at hafter hheld
  have hcommitting := fun b => h.persistent hl (u := e.tag) (b := b)
  rw [hheld] at hcommitting hqueued hplaces
  cases hp : e.persistent with
  | false =>
    rw [hp] at hafter hplaces hcommitting hqueued hheld
    have hnone : after = .none := hafter
    have hzero : placesOf (before.map fun x => (false, x)) = 0 := by cases before <;> rfl
    subst hnone
    refine h.restate hl (fun b hb => ?_) (by simp) ?_ (.inr ⟨by simp, fun hc => by simpa using hqueued hc⟩)
    · have htrue := hcommitting b (hheld.symm.trans hb)
      rw [hheld, htrue] at hb
      simp at hb
    · rw [hzero, show placesOf (some (false, StoreState.none)) = 0 from rfl] at hplaces
      omega
  | true =>
    rw [hp] at hafter hplaces hcommitting hqueued hheld
    by_cases hc : before = some .committing
    · subst hc
      have hsame : after = .committing := hafter
      subst hsame
      refine Books.restand (by simpa using h) (fun u => ?_) (by simpa using hplaces)
      rw [RecordTable.standing_put]
      split_ifs with hu
      · simp [hu, hheld]
      · rfl
    have hbefore : ∀ b, t.standing e.tag ≠ some (b, .committing) := by
      intro b hb
      rw [hheld] at hb
      cases before <;> simp_all
    by_cases hu : before = none ∨ before = some .unstored
    · have hzero : placesOf (before.map fun x => (true, x)) = 0 := by rcases hu with rfl | rfl <;> rfl
      have hnq : e.tag ∉ q := fun hm => by rcases hu with rfl | rfl <;> simpa using hqueued hm
      have hstate : after = if t.placeFree then .dirty else .unstored := by rcases hu with rfl | rfl <;> exact hafter
      cases hfree : t.placeFree with
      | true =>
        have hdirty : after = .dirty := by simpa [hfree] using hstate
        subst hdirty
        have hlt := t.placeFree_iff.1 hfree
        rw [hzero, show placesOf (some (true, StoreState.dirty)) = 1 from rfl] at hplaces
        exact h.restate hl hbefore (by simp) (by omega) (.inl ⟨by simp, rfl, rfl⟩)
      | false =>
        have hunstored : after = .unstored := by simpa [hfree] using hstate
        subst hunstored
        rw [hzero, show placesOf (some (true, StoreState.unstored)) = 0 from rfl] at hplaces
        exact h.restate hl hbefore (by simp) (by omega) (.inr ⟨by simp, hnq⟩)
    · obtain ⟨st, rfl⟩ : ∃ st, before = some st := Option.ne_none_iff_exists'.1 fun hn => hu (.inl hn)
      have hdirty : after = .dirty := by cases st <;> simp_all [storeStateAfter]
      have hone : placesOf ((some st).map fun x => (true, x)) = 1 := by cases st <;> simp_all [placesOf]
      subst hdirty
      rw [hone, show placesOf (some (true, StoreState.dirty)) = 1 from rfl] at hplaces
      exact h.restate hl hbefore (by simp) (by omega) (.inl ⟨by simp, rfl, rfl⟩)

/-! ### Commits -/

theorem placesOf_le_one (x : Option (Bool × StoreState)) : placesOf x ≤ 1 := by
  unfold placesOf
  split <;> simp

theorem placesOf_of_queued (h : Books t q g l) {u : Tag} (hu : u ∈ q) : placesOf (t.standing u) = 1 := by
  rcases h.queued u hu with hq | hq <;> rw [hq] <;> rfl

/-- A queued record is given another store state within its place. -/
theorem places_put_queued (h : Books t q g l) (hs : t.sound = true) {e : Entry} (hq : e.tag ∈ q)
    (st : StoreState) : (t.put { e with storeState := st }).places ≤ maxPlaces := by
  have hplaces : (t.put { e with storeState := st }).places + placesOf (t.standing e.tag) =
      t.places + placesOf (some (e.persistent, st)) := RecordTable.places_put hs { e with storeState := st }
  rw [h.placesOf_of_queued hq] at hplaces
  have hone := placesOf_le_one (some (e.persistent, st))
  have hcap := h.places
  omega

theorem persistent_of_queued (h : Books t q g l) {e : Entry} (he : t.find e.tag = some e) (hq : e.tag ∈ q) :
    e.persistent = true := by
  have hstand := h.queued e.tag hq
  rw [RecordTable.standing_of_find he] at hstand
  rcases hstand with hp | hp <;> simp_all

/-- R142: the commit of the head starts. -/
theorem startCommit (h : Books t q g l) (hs : t.sound = true) {e : Entry} (he : t.find e.tag = some e)
    (hq : q.head? = some e.tag) (pair : Nat) (target : SlotName) (image : SlotImage) :
    Books (t.put { e with storeState := .committing }) q ⟨some (.commit e.tag pair target image false), 0, 0, false⟩ l := by
  have hmem : e.tag ∈ q := List.mem_of_mem_head? hq
  have hp := h.persistent_of_queued he hmem
  have hl : l ≠ .start := fun hc => by simp [h.empty hc] at hq
  exact {
    places := h.places_put_queued hs hmem _
    nodup := h.nodup
    queued := fun u hu => by
      rw [RecordTable.standing_put]
      split_ifs
      · simp [hp]
      · exact h.queued u hu
    empty := h.empty
    head := fun _ u b hu => by
      rw [RecordTable.standing_put] at hu
      split_ifs at hu with hc
      · exact hc ▸ hq
      · exact h.head (.inl hl) u b hu
    discard := by simp
    carried := fun u p s i c hop => by
      cases hop
      exact ⟨by simp [hp], .inr hq⟩ }

/-- R140, R145: the head leaves the queue with another store state than COMMITTING, the engine free; a DIRTY one may be appended
again. -/
theorem retire {tag : Tag} {rest : List Tag} (h : Books t (tag :: rest) g l) (hs : t.sound = true) {e : Entry}
    (he : t.find tag = some e) {st : StoreState} (hst : st ≠ .committing)
    (hq : q' = rest ∨ q' = rest ++ [tag] ∧ st = .dirty) : Books (t.put { e with storeState := st }) q' .initial l := by
  have htag := RecordTable.find_tag he
  subst htag
  have hmem : e.tag ∈ e.tag :: rest := by simp
  have hl : l ≠ .start := fun hc => by simpa using h.empty hc
  obtain ⟨hnot, hnodup⟩ := List.nodup_cons.1 h.nodup
  have hp := h.persistent_of_queued he hmem
  have hrest : ∀ u ∈ rest, u ≠ e.tag ∧ (t.standing u = some (true, .dirty) ∨ t.standing u = some (true, .committing)) :=
    fun u hu => ⟨fun hc => hnot (hc ▸ hu), h.queued u (List.mem_cons_of_mem _ hu)⟩
  exact {
    places := h.places_put_queued hs hmem _
    nodup := by
      rcases hq with rfl | ⟨rfl, -⟩
      · exact hnodup
      · exact List.nodup_append.2 ⟨hnodup, List.nodup_singleton _, fun a ha b hb => by
          rw [List.mem_singleton.1 hb]
          exact (hrest a ha).1⟩
    queued := fun u hu => by
      rw [RecordTable.standing_put]
      rcases hq with rfl | ⟨rfl, hd⟩
      · rw [if_neg (hrest u hu).1]
        exact (hrest u hu).2
      · split_ifs with hc
        · simp [hp, hd]
        · exact (hrest u ((List.mem_append.1 hu).resolve_right fun hx => hc (List.mem_singleton.1 hx))).2
    empty := fun hc => absurd hc hl
    head := fun _ u b hu => by
      rw [RecordTable.standing_put] at hu
      split_ifs at hu with hc
      · simp only [Option.some.injEq, Prod.mk.injEq] at hu
        exact absurd hu.2 hst
      · have hhead := h.head (.inl hl) u b hu
        exact absurd (Option.some.inj hhead).symm hc
    discard := by simp [WriteEngine.initial]
    carried := by simp [WriteEngine.initial] }

/-- R149: the record of a commit that was cut goes back to DIRTY, the engine free. -/
theorem redirty (h : Books t q .initial l) (hs : t.sound = true) {e : Entry} (he : t.find e.tag = some e)
    (hst : t.standing e.tag = some (true, .committing)) : Books (t.put { e with storeState := .dirty }) q .initial l := by
  have hp : e.persistent = true := by
    rw [RecordTable.standing_of_find he] at hst
    simp_all
  have hplaces : (t.put { e with storeState := .dirty }).places + placesOf (t.standing e.tag) =
      t.places + placesOf (some (e.persistent, .dirty)) := RecordTable.places_put hs { e with storeState := .dirty }
  have hone : placesOf (some (e.persistent, StoreState.dirty)) = placesOf (t.standing e.tag) := by rw [hst, hp]; rfl
  exact {
    places := (Nat.add_right_cancel (hplaces.trans (congrArg _ hone))).trans_le h.places
    nodup := h.nodup
    queued := fun u hu => by
      rw [RecordTable.standing_put]
      split_ifs
      · simp [hp]
      · exact h.queued u hu
    empty := h.empty
    head := fun hl u b hu => by
      rw [RecordTable.standing_put] at hu
      split_ifs at hu
      · simp at hu
      · exact h.head hl u b hu
    discard := h.discard
    carried := by simp [WriteEngine.initial] }

/-- R148: the first step of a WIPE. -/
theorem clearStored (h : Books t q g l) (hl : l ≠ .start) (hop : g.op = none) :
    Books { t with entries := t.entries.map Entry.wiped } [] g l where
  places := by
    rw [RecordTable.places_eq_sum, List.map_map, List.sum_eq_zero]
    · exact Nat.zero_le _
    · intro x hx
      obtain ⟨e, -, rfl⟩ := List.mem_map.1 hx
      cases hp : e.persistent <;> simp [Entry.wiped, hp, placesOf]
  nodup := List.nodup_nil
  queued := by simp
  empty _ := rfl
  head _ u b hu := by
    rw [RecordTable.standing, RecordTable.find_wiped] at hu
    cases hf : t.find u with
    | none => simp [hf] at hu
    | some e =>
      cases hp : e.persistent with
      | true => simp [hf, Entry.wiped, hp] at hu
      | false =>
        have hstand : t.standing u = some (false, .committing) := by simp_all [RecordTable.standing, Entry.wiped]
        exact absurd (h.persistent hl hstand) (by simp)
  discard := h.discard
  carried := by simp [hop]

end Books

end Sys2Proof.Machine
end

section
/-! SUPPORT. The port, the link state, the return state, the supply watch and the incarnation write agree, and every command
keeps that. -/

namespace Sys2Proof.Machine

/-- R181, R164, R165, R163, R152: the conjuncts of `State.portInv`. -/
structure PortAgrees (s : State) : Prop where
  notReady : s.port.state = .notReady ↔ s.control.link = .start
  response : s.port.response.isSome = true ↔ s.port.state = .ready
  returns : s.control.returnState = .none ↔ s.control.link ≠ .frozen
  watch : s.control.watch = .good ∨ s.control.link = .start ∨ s.control.link = .frozen
  ends : s.store.engine.endsStart = true → s.control.link = .start

theorem State.portInv_iff (s : State) : s.portInv = true ↔ PortAgrees s := by
  have hbeq : ∀ a b : Bool, (a == b) = true ↔ (a = true ↔ b = true) := by decide
  simp only [State.portInv, Bool.and_eq_true, hbeq, beq_iff_eq, Bool.or_eq_true, bne_iff_ne, Bool.not_eq_eq_eq_not,
    Bool.not_true, ← Bool.not_eq_true, ← imp_iff_not_or, or_assoc]
  constructor
  · rintro ⟨⟨⟨⟨h1, h2⟩, h3⟩, h4⟩, h5⟩
    exact ⟨h1, h2, not_iff_not.1 (by simpa using h3), h4, h5⟩
  · rintro ⟨h1, h2, h3, h4, h5⟩
    exact ⟨⟨⟨⟨h1, h2⟩, by simpa using not_congr h3⟩, h4⟩, h5⟩

namespace PortAgrees

variable {s t : State}

theorem off_start (h : PortAgrees s) (hp : s.port.state ≠ .notReady) : s.control.link ≠ .start :=
  fun hc => hp (h.notReady.2 hc)

theorem not_endsStart (h : PortAgrees s) (hl : s.control.link ≠ .start) : s.store.engine.endsStart ≠ true :=
  fun hc => hl (h.ends hc)

/-- The port's state and response, the three of Station Control, and the engine's incarnation write stay, or that write ends. -/
theorem congr (h : PortAgrees s) (hstate : t.port.state = s.port.state) (hresponse : t.port.response = s.port.response)
    (hlink : t.control.link = s.control.link) (hreturns : t.control.returnState = s.control.returnState)
    (hwatch : t.control.watch = s.control.watch) (hends : t.store.engine.endsStart = true → s.store.engine.endsStart = true) :
    PortAgrees t where
  notReady := by rw [hstate, hlink]; exact h.notReady
  response := by rw [hstate, hresponse]; exact h.response
  returns := by rw [hreturns, hlink]; exact h.returns
  watch := by rw [hwatch, hlink]; exact h.watch
  ends he := by rw [hlink]; exact h.ends (hends he)

theorem of_frame (h : PortAgrees s) (hcontrol : t.control = s.control) (hport : t.port = s.port)
    (hends : t.store.engine.endsStart = true → s.store.engine.endsStart = true) : PortAgrees t :=
  h.congr (by rw [hport]) (by rw [hport]) (by rw [hcontrol]) (by rw [hcontrol]) (by rw [hcontrol]) hends

theorem quiet (h : PortAgrees s) (hq : Quiet s t) : PortAgrees t :=
  h.congr hq.portState hq.response (by rw [hq.control]) (by rw [hq.control]) (by rw [hq.control]) (by rw [hq.store]; exact id)

theorem post (h : PortAgrees s) (n : Notice) : PortAgrees (s.post n) :=
  h.quiet (.post s n)

/-- R169: an answer makes a WORKING port READY with its response. -/
theorem answer (h : PortAgrees s) (c : ResultCode) (d : List Byte) : PortAgrees (s.answer c d) := by
  by_cases hw : s.port.state = .working
  · rw [s.answer_working c d hw]
    exact ⟨by simpa using h.off_start (by simp [hw]), by simp, h.returns, h.watch, h.ends⟩
  · rwa [s.answer_other c d hw]

/-- R159: what a move into another link state than START needs. -/
theorem of_move {link : LinkState} (reason : Reason) (hs : link ≠ .start) (hstate : s.port.state ≠ .notReady)
    (hresponse : s.port.response.isSome = true ↔ s.port.state = .ready)
    (hreturns : s.control.returnState = .none ↔ link ≠ .frozen) (hwatch : s.control.watch = .good ∨ link = .frozen)
    (hends : s.store.engine.endsStart ≠ true) : PortAgrees (s.move link reason) where
  notReady := by simp [State.move, hs, hstate]
  response := by simpa [State.move] using hresponse
  returns := by simpa [State.move] using hreturns
  watch := by simpa [State.move, hs] using hwatch
  ends he := absurd (by simpa using he) hends

/-- R159: a move among the link states other than START and FROZEN. -/
theorem move (h : PortAgrees s) (link : LinkState) (reason : Reason) (hs : s.control.link ≠ .start)
    (hf : s.control.link ≠ .frozen) (hs' : link ≠ .start) (hf' : link ≠ .frozen) : PortAgrees (s.move link reason) :=
  of_move reason hs' (fun hc => hs (h.notReady.1 hc)) h.response (by simpa [hf'] using h.returns.2 hf)
    (.inl (h.watch.resolve_right (by simp [hs, hf]))) (h.not_endsStart hs)

theorem enterJoining (h : PortAgrees s) : PortAgrees s.enterJoining :=
  h.of_frame (by simp) (by simp) (by simp)

/-- R160: the move to QUIESCED. -/
theorem toQuiesced (h : PortAgrees s) (reason : Reason) (hs : s.control.link ≠ .start) (hf : s.control.link ≠ .frozen) :
    PortAgrees (s.toQuiesced reason) := by
  have h1 : PortAgrees s.dropFrame.releaseLines := h.of_frame (by simp) (by simp) (by simp)
  have h2 := h1.move .quiesced reason (by simpa using hs) (by simpa using hf) (by simp) (by simp)
  exact h2.of_frame rfl rfl id

theorem completeQuiesce (h : PortAgrees s) (hs : s.control.link ≠ .start) (hf : s.control.link ≠ .frozen) :
    PortAgrees s.completeQuiesce := by
  refine PortAgrees.answer ?_ _ _
  exact (h.toQuiesced .hostRequest hs hf).congr rfl rfl rfl rfl rfl id

theorem toFaulted (h : PortAgrees s) (hs : s.control.link ≠ .start) (hf : s.control.link ≠ .frozen) :
    PortAgrees s.toFaulted := by
  have h1 : PortAgrees s.dropFrame.releaseLines := h.of_frame (by simp) (by simp) (by simp)
  have h2 := h1.move .faulted .busStuck (by simpa using hs) (by simpa using hf) (by simp) (by simp)
  exact h2.of_frame rfl rfl id

/-! ### START -/

/-- R157, R181: after an entry to START everything agrees, if no incarnation write that ends it is in progress then. -/
theorem of_start (hl : t.control.link = .start) (hr : t.control.returnState = .none) (hp : t.port.state = .notReady)
    (hn : t.port.response = none) : PortAgrees t :=
  ⟨by simp [hl, hp], by simp [hp, hn], by simp [hl, hr], by simp [hl], fun _ => hl⟩

theorem startKeepingOp (s : State) (cause : StartCause) : PortAgrees (s.startKeepingOp cause) := by
  refine of_start ?_ ?_ ?_ ?_ <;> simp [State.startKeepingOp, State.enterStart, HostPort.atStart, HostPort.initial]

theorem startCuttingOp (s : State) : PortAgrees s.startCuttingOp := by
  refine of_start ?_ ?_ ?_ ?_ <;> simp [State.startCuttingOp, State.enterStart, HostPort.atStart, HostPort.initial]

theorem runStart (h : PortAgrees s) (hl : s.control.link = .start) : PortAgrees s.runStart := by
  refine of_start ?_ ?_ ?_ ?_
  · simpa [State.runStart] using hl
  · simpa [State.runStart] using h.returns.2 (by simp [hl])
  · simpa using h.notReady.2 hl
  · have hn := h.response
    rw [h.notReady.2 hl] at hn
    simpa using hn

/-- R158 step 5: the end of a start. -/
theorem leaveStart (h : PortAgrees s) (hends : s.store.engine.endsStart ≠ true) : PortAgrees s.leaveStart := by
  unfold State.leaveStart
  split_ifs with hl
  · have hresponse : s.port.response = none := by
      have hn := h.response
      rw [h.notReady.2 hl] at hn
      simpa using hn
    have hreturns := h.returns.2 (by simp [hl])
    have hmoved (link : LinkState) (reason : Reason) (hs : link ≠ .start) (hf : link ≠ .frozen) :
        PortAgrees (((s.setControl { s.control with watch := .good, filter := 0 }).setPort
          { s.port with state := .idle }).move link reason) :=
      of_move reason hs (by simp) (by simp [hresponse]) (by simp [hreturns, hf]) (.inl rfl) hends
    dsimp only
    split_ifs
    · exact (hmoved .joining .started (by simp) (by simp)).enterJoining
    · exact hmoved .quiesced .configInvalid (by simp) (by simp)
  · exact h

/-! ### FROZEN -/

theorem cutEngine_not_endsStart (s : State) : s.cutEngine.store.engine.endsStart ≠ true := by
  unfold State.cutEngine
  split
  · rename_i h
    simp [WriteEngine.endsStart_iff, h]
  · simp [State.freeEngine, WriteEngine.endsStart_iff, WriteEngine.initial]

/-- R149: abandoning an operation answers a request of the port at most. -/
theorem abandonOp (h : PortAgrees s) : PortAgrees s.abandonOp := by
  have hcut : PortAgrees s.cutEngine :=
    h.of_frame (by simp) (by simp) fun he => absurd he (cutEngine_not_endsStart s)
  have hrequest (t : State) (ht : PortAgrees t) : PortAgrees (match t.store.request with
      | some _ => (t.setStore { t.store with request := none }).answer .storeFailed []
      | none => t) := by
    split
    · refine answer ?_ _ _
      exact ht.of_frame rfl rfl id
    · exact ht
  unfold State.abandonOp
  refine hrequest _ ?_
  split
  · exact hcut.of_frame (by simp) (by simp) (by simp)
  · exact hcut.answer _ _
  · refine answer ?_ _ _
    exact hcut.of_frame rfl rfl id
  · exact hcut
  · exact hcut

/-- R164: the move to FROZEN. -/
theorem toFrozen (h : PortAgrees s) (hs : s.control.link ≠ .start) (hf : s.control.link ≠ .frozen) :
    PortAgrees s.toFrozen := by
  have hquiesced : PortAgrees (if s.control.quiesceWaiting then s.completeQuiesce else s) ∧
      (if s.control.quiesceWaiting then s.completeQuiesce else s).control.link ≠ .start := by
    split_ifs
    · exact ⟨h.completeQuiesce hs hf, by simp [State.completeQuiesce, State.toQuiesced, State.move]⟩
    · exact ⟨h, hs⟩
  simp only [State.toFrozen]
  generalize (if s.control.quiesceWaiting then s.completeQuiesce else s) = u at hquiesced ⊢
  obtain ⟨hu, hlink⟩ := hquiesced
  have hcut : PortAgrees ((u.cutFrame.setFe .initial).setLine u.cutFrame.line.restart) :=
    hu.of_frame (by simp) (by simp) (by simp)
  have habandon := hcut.abandonOp
  have hlink' : ((u.cutFrame.setFe .initial).setLine u.cutFrame.line.restart).abandonOp.control.link ≠ .start := by
    simpa using hlink
  generalize ((u.cutFrame.setFe .initial).setLine u.cutFrame.line.restart).abandonOp = v at habandon hlink' ⊢
  have hreturn : v.control.link.returnFrom ≠ .none := by cases v.control.link <;> simp [LinkState.returnFrom]
  exact of_move .supplyLow (by simp) (fun hc => hlink' (habandon.notReady.1 hc)) habandon.response (by simpa using hreturn)
    (.inr rfl) (habandon.not_endsStart hlink')

/-- R165: the move out of FROZEN. -/
theorem leaveFrozen (h : PortAgrees s) (hl : s.control.link = .frozen) : PortAgrees s.leaveFrozen := by
  have hs : s.control.link ≠ .start := by simp [hl]
  have hmoved (link : LinkState) (reason : Reason) (hs' : link ≠ .start) (hf' : link ≠ .frozen) :
      PortAgrees ((s.setControl { s.control with returnState := .none, watch := .good, filter := 0 }).move link reason) :=
    of_move reason hs' (fun hc => hs (h.notReady.1 hc)) h.response (by simpa using hf') (.inl rfl) (h.not_endsStart hs)
  simp only [State.leaveFrozen]
  split
  · exact hmoved .quiesced .supplyGood (by simp) (by simp)
  · exact enterJoining ((hmoved .joining .supplyGood (by simp) (by simp)).of_frame rfl rfl id)

end PortAgrees

end Sys2Proof.Machine
end

section
/-! SUPPORT. Every command keeps the agreement of the port, Station Control and the incarnation write. -/

namespace Sys2Proof.Machine

namespace PortAgrees

variable {s : State}

/-! ### Requests -/

theorem taken (h : PortAgrees s) (hp : s.port.state = .idle ∨ s.port.state = .ready) (code : Byte) (args : List Byte) :
    PortAgrees (s.taken code args) := by
  have hl : s.control.link ≠ .start := h.off_start (by rcases hp with hp | hp <;> simp [hp])
  exact ⟨by simpa using hl, by simp, by simpa using h.returns, by simpa using h.watch, by simpa using h.ends⟩

/-- A request keeps the agreement if its owner does, which takes it outside START, and outside FROZEN if gated. -/
theorem request (h : PortAgrees s) (code : Byte) (args : List Byte) (sized gated : Bool) (owner : State → State)
    (howner : ∀ t, PortAgrees t → t.control.link ≠ .start → (gated = true → t.control.link ≠ .frozen) → PortAgrees (owner t)) :
    PortAgrees (s.request code args sized gated owner) := by
  obtain ⟨p, hp, hstate, hresponse, -⟩ | ⟨hp, ⟨c, hc⟩ | ⟨hg, ho⟩⟩ := s.request_cases code args sized gated owner
  · rw [hp]
    exact h.congr hstate hresponse rfl rfl rfl id
  · rw [hc]
    exact (h.taken hp code args).answer c []
  · rw [ho]
    have hl : s.control.link ≠ .start := h.off_start (by rcases hp with hp | hp <;> simp [hp])
    exact howner _ (h.taken hp code args) (by simpa using hl) (by simpa using hg)

theorem changeEntry (h : PortAgrees s) (e : Entry) : PortAgrees (s.changeEntry e) := by
  refine h.of_frame (by simp) (by simp) ?_
  rw [State.changeEntry_store]
  simp

theorem noteUnstored (h : PortAgrees s) (tag : Tag) : PortAgrees (s.noteUnstored tag) := by
  unfold State.noteUnstored
  split
  · split_ifs
    · exact h.post _
    · exact h
  · exact h

theorem ownerWrite (h : PortAgrees s) (args : List Byte) : PortAgrees (State.ownerWrite args s) := by
  unfold State.ownerWrite
  split
  · exact h.answer _ _
  · split
    · exact h.answer _ _
    · have hclaimed : ∀ e, PortAgrees ((s.changeEntry e).claimWritten e.tag) := fun e =>
        (h.changeEntry e).of_frame (by simp) (by simp) (by simp)
      exact ((hclaimed _).noteUnstored _).answer _ _

theorem ownerWatch (h : PortAgrees s) (args : List Byte) : PortAgrees (State.ownerWatch args s) := by
  unfold State.ownerWatch
  split
  · split
    · exact h.answer _ _
    · refine answer ?_ _ _
      exact h.of_frame (by simp) (by simp) (by simp)
  · exact h.answer _ _

theorem ownerQuiesce (h : PortAgrees s) (hs : s.control.link ≠ .start) (hf : s.control.link ≠ .frozen) :
    PortAgrees s.ownerQuiesce := by
  unfold State.ownerQuiesce
  split
  · exact h.answer _ _
  · exact h.completeQuiesce hs hf
  · split_ifs
    · exact h.congr rfl rfl rfl rfl rfl id
    · exact h.completeQuiesce hs hf

theorem ownerResume (h : PortAgrees s) : PortAgrees s.ownerResume := by
  unfold State.ownerResume
  split_ifs with hq
  · exact (h.move .joining .hostRequest (by simp [hq]) (by simp [hq]) (by simp) (by simp)).enterJoining.answer _ _
  · exact h.answer _ _
  · exact h.answer _ _

theorem ownerNotice (h : PortAgrees s) : PortAgrees s.ownerNotice := by
  unfold State.ownerNotice
  split
  · exact h.answer _ _
  · refine answer ?_ _ _
    exact h.congr rfl rfl rfl rfl rfl id

theorem ownerConfigWrite (h : PortAgrees s) (args : List Byte) : PortAgrees (State.ownerConfigWrite args s) := by
  unfold State.ownerConfigWrite
  split
  · split
    · exact h.answer _ _
    · exact h.of_frame rfl rfl id
  · exact h.answer _ _

theorem ownerWipe (h : PortAgrees s) : PortAgrees s.ownerWipe := by
  unfold State.ownerWipe
  split_ifs
  · exact h.of_frame rfl rfl id
  · exact h.answer _ _

/-! ### PUBLISH frames -/

theorem decidePublish (h : PortAgrees s) (f : PublishContent) : PortAgrees (s.decidePublish f) := by
  obtain hq | ⟨e, -, -, hq⟩ := s.decidePublish_cases f
  · exact h.quiet hq
  · exact (h.changeEntry e).quiet hq

/-! ### The write engine -/

theorem freeEngine (h : PortAgrees s) : PortAgrees s.freeEngine :=
  h.of_frame (by simp) (by simp) (by simp [State.freeEngine, WriteEngine.endsStart_iff, WriteEngine.initial])

theorem endCommit (h : PortAgrees s) (tag : Tag) (changed : Bool) (st : StoreState) :
    PortAgrees (s.endCommit tag changed st) := by
  refine freeEngine ?_
  exact h.of_frame (by simp) (by simp) (by simp)

theorem nextWipe (h : PortAgrees s) (pair : Nat) (allFreed : Bool) : PortAgrees (s.nextWipe pair allFreed) := by
  simp only [State.nextWipe]
  split_ifs
  · exact h.of_frame rfl rfl (by simp [WriteEngine.endsStart])
  · exact h.freeEngine
  · exact h.freeEngine.answer _ _
  · exact h.freeEngine.answer _ _

theorem opSucceeds (h : PortAgrees s) (op : StoreOp) : PortAgrees (s.opSucceeds op) := by
  have h1 : PortAgrees (s.setArray (s.store.array.written op)) := h.of_frame rfl rfl id
  have hpair : ∀ n f, PortAgrees ((s.setArray (s.store.array.written op)).modifyPair n f) := fun n f =>
    h1.of_frame rfl rfl id
  simp only [State.opSucceeds]
  split
  · split_ifs
    · exact (hpair _ _).freeEngine
    · exact (hpair _ _).endCommit _ _ _
  · split_ifs
    · exact h1.freeEngine
    · exact h1.freeEngine.answer _ _
  · exact (hpair _ _).nextWipe _ _
  · split_ifs
    · exact h1.freeEngine
    · exact h1.freeEngine.leaveStart (by simp [State.freeEngine, WriteEngine.endsStart_iff, WriteEngine.initial])

theorem opFails (h : PortAgrees s) {op : StoreOp} (hop : s.store.engine.op = some op) : PortAgrees (s.opFails op) := by
  unfold State.opFails State.opFailsFinally
  split
  · exact h.of_frame rfl rfl (by simp [State.rewrite, WriteEngine.endsStart, hop])
  · split
    · split
      · exact h.freeEngine
      · exact (h.endCommit _ _ _).post _
    · split
      · exact h.freeEngine
      · exact h.freeEngine.answer _ _
    · refine nextWipe ?_ _ _
      exact h.of_frame rfl rfl id
    · split
      · exact h.freeEngine
      · exact (h.freeEngine.post _).leaveStart (by simp [State.freeEngine, WriteEngine.endsStart_iff, WriteEngine.initial])

theorem writeDone (h : PortAgrees s) (current good : Bool) : Meets (execWriteDone current good s) PortAgrees := by
  refine .next ?_
  split
  · exact h
  · rename_i op hop
    split_ifs
    · exact h
    · exact h.opSucceeds op
    · refine opFails (s := (s.setArray _).useFree 2) ?_ (by simpa using hop)
      exact h.of_frame rfl rfl id

theorem writeLimit (h : PortAgrees s) : Meets (execWriteLimit s) PortAgrees := by
  refine .next ?_
  split
  · exact h
  · rename_i op hop
    split_ifs
    · exact h
    · refine opFails (s := (s.setArray _).useFree 2) ?_ (by simpa using hop)
      exact h.of_frame rfl rfl id

theorem commitStart (h : PortAgrees s) : Meets (execCommitStart s) PortAgrees := by
  refine .next ?_
  split_ifs
  · split
    · exact h
    · split
      · unfold State.startCommitOn
        split
        · exact h
        · exact h.of_frame (by simp) (by simp) (by simp [State.beginOp, WriteEngine.endsStart])
      · refine post ?_ _
        exact h.of_frame (by simp) (by simp) (by simp)
      · exact h
  · exact h

theorem configWriteStart (h : PortAgrees s) : Meets (execConfigWriteStart s) PortAgrees := by
  refine .next ?_
  split
  · split_ifs
    · exact h.of_frame rfl rfl (by simp [State.beginOp, WriteEngine.endsStart])
    · exact h
  · exact h

theorem wipeStart (h : PortAgrees s) : Meets (execWipeStart s) PortAgrees := by
  refine .next ?_
  split
  · split_ifs
    · exact h.of_frame (by simp) (by simp) (by simp [State.beginOp, WriteEngine.endsStart])
    · exact h
  · exact h

/-! ### The port's transactions and the pins -/

theorem fetch (h : PortAgrees s) (clocked : Nat) : Meets (execFetch clocked s) PortAgrees := by
  refine .next ?_
  dsimp only
  split
  · rename_i hc
    have hready : s.port.state = .ready := by
      refine h.response.1 ?_
      unfold HostPort.consumes at hc
      cases hr : s.port.response with
      | none => simp [hr] at hc
      | some r => rfl
    exact ⟨by simpa using h.off_start (by simp [hready]), by simp, h.returns, h.watch, h.ends⟩
  · exact h.congr rfl rfl rfl rfl rfl id

theorem pfailEdge (h : PortAgrees s) (asserted : Bool) : PortAgrees (s.pfailEdge asserted) := by
  unfold State.pfailEdge
  split_ifs
  · exact h
  · exact h.congr rfl rfl rfl rfl rfl id

theorem setWatch (h : PortAgrees s) {w : SupplyWatch}
    (hw : w = .good ∨ s.control.link = .start ∨ s.control.link = .frozen) : PortAgrees (s.setWatch w) :=
  ⟨h.notReady, h.response, h.returns, hw, h.ends⟩

theorem supplyLow (h : PortAgrees s) (lasting : Bool) : Meets (execSupplyLow s lasting) PortAgrees := by
  have h1 : PortAgrees { s with pfailPin := true } := h.of_frame rfl rfl id
  have hlow (hs : s.control.link ≠ .start) (hf : s.control.link ≠ .frozen) :
      PortAgrees (State.takeSupplyLow { s with pfailPin := true }) := by
    unfold State.takeSupplyLow
    split
    · exact h1.toFrozen hs hf
    · exact startCuttingOp _
  refine .next ?_
  split
  · exact h.pfailEdge true
  · split
    · exact h1
    · split
      · rename_i hl
        exact h1.setWatch (.inr (.inl hl))
      · rename_i hl
        exact h1.setWatch (.inr (.inr hl))
      all_goals
        rename_i hl
        exact hlow (by simp [hl]) (by simp [hl])

theorem supplyGood (h : PortAgrees s) (lasting : Bool) : Meets (execSupplyGood s lasting) PortAgrees := by
  have h1 : PortAgrees { s with pfailPin := false } := h.of_frame rfl rfl id
  refine .next ?_
  split_ifs with hn hg hl
  · exact h.pfailEdge false
  · exact h1
  · exact h1.leaveFrozen hl
  · exact h1.setWatch (.inl rfl)

/-! ### Reports -/

theorem reports (h : PortAgrees s) (x : Reports) : PortAgrees (s.setReports x) :=
  h.of_frame rfl rfl id

theorem not_frozen_of_onBus (hb : s.onBus = true) : s.control.link ≠ .start ∧ s.control.link ≠ .frozen := by
  rcases s.onBus_iff.1 hb with hl | hl <;> simp [hl]

theorem duplicateId (h : PortAgrees s) : Meets (execDuplicateId s) PortAgrees := by
  refine .next ?_
  split_ifs with hb
  · obtain ⟨hs, hf⟩ := not_frozen_of_onBus hb
    have hq := (h.reports { s.reports with duplicateId := false }).toQuiesced .duplicateId hs hf
    unfold State.endWaiting
    split_ifs
    · refine answer ?_ _ _
      exact hq.congr rfl rfl rfl rfl rfl id
    · exact hq
  · exact h.reports _

theorem busStuck (h : PortAgrees s) : Meets (execBusStuck s) PortAgrees := by
  refine .next ?_
  split_ifs with hb
  · obtain ⟨hs, hf⟩ := not_frozen_of_onBus hb
    exact (h.reports _).toFaulted hs hf
  · exact h.reports _

theorem busRecovered (h : PortAgrees s) : Meets (execBusRecovered s) PortAgrees := by
  refine .next ?_
  split_ifs with hl
  · have hl' : s.control.link = .faulted := hl
    exact ((h.reports _).move .joining .busRecovered (by simp [hl']) (by simp [hl']) (by simp) (by simp)).enterJoining
  · exact h.reports _

theorem joinComplete (h : PortAgrees s) : Meets (execJoinComplete s) PortAgrees := by
  refine .next ?_
  split_ifs with hl
  · have hl' : s.control.link = .joining := hl
    exact ((h.reports _).move .active .joinComplete (by simp [hl']) (by simp [hl']) (by simp) (by simp)).of_frame rfl rfl id
  · exact h.reports _

theorem quiesceComplete (h : PortAgrees s) : Meets (execQuiesceComplete s) PortAgrees := by
  refine .next (reports ?_ _)
  split_ifs with hc
  · have hl : s.control.link ≠ .start ∧ s.control.link ≠ .frozen := by
      simp only [Bool.and_eq_true] at hc
      constructor <;> rintro hl <;> simp [hl, LinkState.completesQuiesce] at hc
    exact h.completeQuiesce hl.1 hl.2
  · exact h

end PortAgrees

/-- R181, R164, R165, R163, R152: every command keeps the agreement. -/
theorem exec_portAgrees (c : Instr) (s : State) (h : PortAgrees s) : Meets (exec c s) PortAgrees := by
  by_cases hq : quietCommand c = true
  · exact (exec_quiet c hq s).mono fun t ht => h.quiet ht
  cases c
  case read args =>
    refine .next (h.request _ _ _ _ _ fun t ht _ _ => ?_)
    unfold State.ownerRead
    (repeat' split) <;> exact ht.answer _ _
  case nextTag args =>
    refine .next (h.request _ _ _ _ _ fun t ht _ _ => ?_)
    unfold State.ownerNext
    (repeat' split) <;> exact ht.answer _ _
  case write args => exact .next (h.request _ _ _ _ _ fun t ht _ _ => ht.ownerWrite args)
  case watch args => exact .next (h.request _ _ _ _ _ fun t ht _ _ => ht.ownerWatch args)
  case status args => exact .next (h.request _ _ _ _ _ fun t ht _ _ => ht.answer _ _)
  case peers args => exact .next (h.request _ _ _ _ _ fun t ht _ _ => ht.answer _ _)
  case notice args => exact .next (h.request _ _ _ _ _ fun t ht _ _ => ht.ownerNotice)
  case quiesce args => exact .next (h.request _ _ _ _ _ fun t ht hs hf => ht.ownerQuiesce hs (hf rfl))
  case resume args => exact .next (h.request _ _ _ _ _ fun t ht _ _ => ht.ownerResume)
  case configRead args => exact .next (h.request _ _ _ _ _ fun t ht _ _ => ht.answer _ _)
  case configWrite args => exact .next (h.request _ _ _ _ _ fun t ht _ _ => ht.ownerConfigWrite args)
  case wipe args => exact .next (h.request _ _ _ _ _ fun t ht _ _ => ht.ownerWipe)
  case restart args => exact .next (h.request _ _ _ _ _ fun t _ _ _ => .startKeepingOp t _)
  case notACommandCode code args =>
    refine .next ?_
    split_ifs
    · exact h
    · exact h.request _ _ _ _ _ fun t ht _ _ => ht
  case fetch clocked => exact h.fetch clocked
  case publishFrame =>
    refine .next ?_
    split
    · split
      · split
        · exact (h.decidePublish _).quiet (.applyLateLoss _)
        · exact h.decidePublish _
      · exact h
    · exact h
  case lateLossConfirmed =>
    refine .next ?_
    split
    · split
      · split
        · exact (h.decidePublish _).quiet (.applyLateLoss _)
        · exact h
      · exact h.quiet ((Quiet.refl s).castNone.setReports _)
      · exact h
    · exact h
  case duplicateId => exact h.duplicateId
  case busStuck => exact h.busStuck
  case busRecovered => exact h.busRecovered
  case joinComplete => exact h.joinComplete
  case quiesceComplete => exact h.quiesceComplete
  case powerUp pfail => exact .next (.startCuttingOp _)
  case resetAssert lasting =>
    have h1 : PortAgrees (if lasting then s else s.useFree 1) := by
      split_ifs
      · exact h
      · exact h.of_frame rfl rfl id
    refine .next ?_
    split
    · exact .startKeepingOp _ _
    · exact h1
  case startSequence =>
    refine .next ?_
    split_ifs with hc
    · exact h.runStart (by simp_all)
    · exact h
  case supplyLow lasting => exact h.supplyLow lasting
  case supplyGood lasting => exact h.supplyGood lasting
  case commitStart => exact h.commitStart
  case configWriteStart => exact h.configWriteStart
  case wipeStart => exact h.wipeStart
  case writeDone current good => exact h.writeDone current good
  case writeLimit => exact h.writeLimit
  all_goals exact absurd rfl hq

end Sys2Proof.Machine
end

section
/-! SUPPORT. The books of a station that meets the invariants of the table and of the port, and what the operations of the
commands do to them. -/

namespace Sys2Proof.Machine

/-- The books of a station. -/
def State.Booked (s : State) : Prop :=
  Books s.table s.store.commitQ s.store.engine s.control.link

/-- The invariants of the table and of the port, and the books. -/
structure Kept (s : State) : Prop where
  table : s.tableInv = true
  port : PortAgrees s
  books : s.Booked

theorem State.commitInv_iff (s : State) : s.commitInv = true ↔ Kept s := by
  have hloaded : s.loaded = true ↔ s.control.link ≠ .start ∨ s.store.engine.endsStart = true := by
    simp [State.loaded]
  constructor
  · intro h
    simp only [State.commitInv, Bool.and_eq_true, decide_eq_true_eq, List.all_eq_true, Bool.or_eq_true, bne_iff_ne, ne_eq,
      Bool.not_eq_eq_eq_not, Bool.not_true, beq_iff_eq, List.isEmpty_iff, RecordTable.awaitsCommit_iff] at h
    obtain ⟨⟨⟨⟨⟨⟨⟨⟨⟨htable, hport⟩, hplaces⟩, hnodup⟩, -⟩, hqueued⟩, hempty⟩, hhead⟩, hdiscard⟩, hop⟩ := h
    refine ⟨htable, s.portInv_iff.1 hport, hplaces, hnodup, hqueued, fun hl => hempty.resolve_left (by simp [hl]), ?_, ?_, ?_⟩
    · intro hl u b hu
      rcases hhead with hnl | hall
      · simp [hloaded.2 hl] at hnl
      · cases hf : s.table.find u with
        | none => simp [RecordTable.standing, hf] at hu
        | some e =>
          have hst := (RecordTable.standing_of_find hf).symm.trans hu
          simp only [Option.some.injEq, Prod.mk.injEq] at hst
          have hq := (hall e (RecordTable.find_mem hf)).resolve_left (by simp [hst.2])
          rw [hq, RecordTable.find_tag hf]
    · exact fun hd => hdiscard.resolve_left (by simp [hd])
    · intro u pair target image changed hc
      rw [hc] at hop
      simpa only [Bool.and_eq_true, RecordTable.commits_iff, Bool.or_eq_true, beq_iff_eq] using hop
  · rintro ⟨htable, hport, hbooks⟩
    have hsound := (s.tableInv_iff.1 htable).1
    simp only [State.commitInv, Bool.and_eq_true, decide_eq_true_eq, List.all_eq_true, Bool.or_eq_true, bne_iff_ne, ne_eq,
      Bool.not_eq_eq_eq_not, Bool.not_true, beq_iff_eq, List.isEmpty_iff, RecordTable.awaitsCommit_iff]
    refine ⟨⟨⟨⟨⟨⟨⟨⟨⟨htable, s.portInv_iff.2 hport⟩, hbooks.places⟩, hbooks.nodup⟩, hbooks.length_le⟩, hbooks.queued⟩,
      ?_⟩, ?_⟩, ?_⟩, ?_⟩
    · exact or_iff_not_imp_left.2 fun hl => hbooks.empty (not_not.1 hl)
    · by_cases hl : s.loaded = true
      · refine .inr fun e he => or_iff_not_imp_left.2 fun hst => ?_
        have hf := (RecordTable.find_iff hsound e).2 he
        refine hbooks.head (hloaded.1 hl) e.tag e.persistent ?_
        rw [RecordTable.standing_of_find hf, not_not.1 hst]
      · exact .inl (by simpa using hl)
    · cases hd : s.store.engine.discard with
      | false => exact .inl rfl
      | true => exact .inr (hbooks.discard hd)
    · split
      · rename_i tag pair target image changed hop
        simpa only [Bool.and_eq_true, RecordTable.commits_iff, Bool.or_eq_true, beq_iff_eq] using hbooks.carried _ _ _ _ _ hop
      · rfl

theorem Kept.sound {s : State} (h : Kept s) : s.table.sound = true :=
  (s.tableInv_iff.1 h.table).1

namespace State.Booked

variable {s t : State}

theorem congr (h : s.Booked) (htable : t.table = s.table) (hq : t.store.commitQ = s.store.commitQ)
    (hengine : t.store.engine = s.store.engine) (hlink : t.control.link = s.control.link) : t.Booked := by
  unfold State.Booked
  rw [htable, hq, hengine, hlink]
  exact h

theorem of_frame (h : s.Booked) (htable : t.table = s.table) (hstore : t.store = s.store) (hcontrol : t.control = s.control) :
    t.Booked :=
  h.congr htable (by rw [hstore]) (by rw [hstore]) (by rw [hcontrol])

theorem quiet (h : s.Booked) (hs : s.table.sound = true) (hq : Quiet s t) : t.Booked := by
  obtain ⟨hstanding, hplaces⟩ := RecordTable.Marked.standing hq.table hs
  have hr := Books.restand h hstanding hplaces
  unfold State.Booked
  rwa [hq.store, hq.control]

theorem answer (h : s.Booked) (c : ResultCode) (d : List Byte) : (s.answer c d).Booked :=
  h.of_frame (by simp) (by simp) (by simp)

theorem post (h : s.Booked) (n : Notice) : (s.post n).Booked :=
  h.of_frame (by simp) (by simp) (by simp)

/-- A move among the link states other than START. -/
theorem move (h : s.Booked) (hs : s.control.link ≠ .start) (htable : t.table = s.table) (hstore : t.store = s.store)
    (ht : t.control.link ≠ .start) : t.Booked := by
  have hm := Books.move h hs ht
  unfold State.Booked
  rwa [htable, hstore]

theorem completeQuiesce (h : s.Booked) (hs : s.control.link ≠ .start) : s.completeQuiesce.Booked :=
  h.move hs (by simp) (by simp) (by simp [State.completeQuiesce, State.toQuiesced, State.move])

/-- R13: a change of an entry, outside START. -/
theorem changeEntry (h : s.Booked) (hs : s.table.sound = true) (hl : s.control.link ≠ .start) {e : Entry}
    (he : s.table.Admits e) : (s.changeEntry e).Booked :=
  Books.markChanged (Books.changeEntry h hs hl he rfl) e.tag

/-! ### The write engine -/

theorem freeEngine (h : s.Booked) : s.freeEngine.Booked :=
  Books.freeEngine h

theorem setStoreState_table {tag : Tag} {e : Entry} (he : s.table.find tag = some e) (st : StoreState) :
    (s.setStoreState tag st).table = s.table.put { e with storeState := st } := by
  simp [State.setStoreState, State.modifyEntry, he]

/-- The record of the commit that the engine carries is held. -/
theorem find_of_carried (h : s.Booked) {tag : Tag} {pair : Nat} {target : SlotName} {image : SlotImage} {changed : Bool}
    (hop : s.store.engine.op = some (.commit tag pair target image changed)) :
    ∃ e, s.table.find tag = some e ∧ s.table.standing e.tag = some (true, .committing) := by
  have hst := (Books.carried h tag pair target image changed hop).1
  cases hf : s.table.find tag with
  | none => simp [RecordTable.standing, hf] at hst
  | some e => exact ⟨e, rfl, by rw [RecordTable.find_tag hf, hst]⟩

/-- R145: the end of a commit that counts. -/
theorem endCommit (h : s.Booked) (hs : s.table.sound = true) {tag : Tag} {pair : Nat} {target : SlotName} {image : SlotImage}
    {changed : Bool} (hop : s.store.engine.op = some (.commit tag pair target image changed))
    (hd : s.store.engine.discard ≠ true) {st : StoreState} (hst : st ≠ .committing) (again : Bool) :
    (s.endCommit tag again st).Booked := by
  obtain ⟨e, he, -⟩ := h.find_of_carried hop
  have hhead := (Books.carried h tag pair target image changed hop).2.resolve_left hd
  obtain ⟨rest, hrest⟩ := List.head?_eq_some_iff.1 hhead
  have hb : Books s.table (tag :: rest) s.store.engine s.control.link := hrest ▸ h
  have htable : (s.endCommit tag again st).table = s.table.put { e with storeState := if again then .dirty else st } := by
    rw [← setStoreState_table he]
    unfold State.endCommit State.setStoreState State.modifyEntry
    simp only [State.freeEngine_frame, State.setStore_table, he]
    rfl
  have hq : (s.endCommit tag again st).store.commitQ = if again then rest ++ [tag] else rest := by
    simp [State.endCommit, State.freeEngine, hrest]
  have hg : (s.endCommit tag again st).store.engine = .initial := rfl
  unfold State.Booked
  rw [htable, hq, hg, (s.endCommit_frame tag again st).2.2.2.2.2.1]
  cases again with
  | false => exact hb.retire hs he hst (.inl rfl)
  | true => exact hb.retire hs he (by simp) (.inr ⟨rfl, rfl⟩)

/-- R140: the head that can be given no pair. -/
theorem dropHead (h : s.Booked) (hs : s.table.sound = true) {tag : Tag} {rest : List Tag} (hq : s.store.commitQ = tag :: rest)
    {e : Entry} (he : s.table.find tag = some e) (hop : s.store.engine.op = none) : (s.dropHead tag).Booked := by
  have hb : Books s.table (tag :: rest) s.store.engine s.control.link := hq ▸ h
  have hl : s.control.link ≠ .start := fun hc => by simpa using hb.empty hc
  have hr := hb.retire hs he (st := .unstored) (by simp) (.inl rfl)
  have hd : s.store.engine.discard = false := by simpa using fun hc => hl (hb.discard hc)
  refine post ?_ _
  have hf : (s.setStore { s.store with commitQ := s.store.commitQ.tail }).table.find tag = some e := he
  unfold State.Booked
  dsimp only
  rw [setStoreState_table hf]
  simpa [hq] using hr.sameOp (g' := s.store.engine) hop hd

/-- R142: the start of a commit. -/
theorem startCommitOn (h : s.Booked) (hs : s.table.sound = true) {e : Entry} (he : s.table.find e.tag = some e)
    (hq : s.store.commitQ.head? = some e.tag) (pair : Nat) : (s.startCommitOn e pair).Booked := by
  unfold State.startCommitOn
  split
  · exact h
  · rename_i m _
    have hb := Books.startCommit h hs he hq pair m.target e.image
    unfold State.Booked
    simpa [State.beginOp, setStoreState_table he] using hb

/-- R148: the next pair of a WIPE, or its end. -/
theorem nextWipe (h : s.Booked) (pair : Nat) (allFreed : Bool) : (s.nextWipe pair allFreed).Booked := by
  simp only [State.nextWipe]
  split
  · have hb := Books.otherOp (g' := ⟨some (.wipe (pair + 1) allFreed), 0, 0, s.store.engine.discard⟩) h (by simp) (by simp)
      (fun hd => Books.discard (g := s.store.engine) h hd)
    exact hb
  · split
    · exact h.freeEngine
    · exact h.freeEngine.answer _ _

/-- R158: the end of a start whose incarnation write counts. -/
theorem leaveStart (h : s.Booked) (hengine : s.store.engine = .initial) (hnone : s.table.NoneCommitting) :
    s.leaveStart.Booked := by
  by_cases hl : s.control.link = .start
  · have hb : Books s.table s.store.commitQ .initial .start := by
      have hb : Books s.table s.store.commitQ s.store.engine s.control.link := h
      rwa [hengine, hl] at hb
    unfold State.Booked
    rw [(s.leaveStart_frame).2.2.2.2.2.2.1, (s.leaveStart_frame).2.2.2.2.2.2.2, hengine]
    exact hb.leaveStart hnone
  · rw [State.leaveStart, if_neg hl]
    exact h

theorem opSucceeds (h : s.Booked) (hp : PortAgrees s) (hs : s.table.sound = true) {op : StoreOp}
    (hop : s.store.engine.op = some op) : (s.opSucceeds op).Booked := by
  have h1 : (s.setArray (s.store.array.written op)).Booked := h.congr rfl rfl rfl rfl
  have hpair : ∀ n f, ((s.setArray (s.store.array.written op)).modifyPair n f).Booked := fun n f => h1.congr rfl rfl rfl rfl
  simp only [State.opSucceeds]
  split
  · split_ifs with hd
    · exact (hpair _ _).freeEngine
    · exact (hpair _ _).endCommit (by simpa using hs) hop hd (by simp) _
  · split_ifs
    · exact h1.freeEngine
    · exact h1.freeEngine.answer _ _
  · exact (hpair _ _).nextWipe _ _
  · split_ifs with hd
    · exact h1.freeEngine
    · have he : s.store.engine.endsStart = true := s.store.engine.endsStart_iff.2 ⟨by simpa using hd, _, _, hop⟩
      have hb : Books s.table s.store.commitQ s.store.engine .start := hp.ends he ▸ h
      exact h1.freeEngine.leaveStart rfl (by simpa using hb.noneCommitting he)

theorem opFails (h : s.Booked) (hp : PortAgrees s) (hs : s.table.sound = true) {op : StoreOp}
    (hop : s.store.engine.op = some op) : (s.opFails op).Booked := by
  unfold State.opFails State.opFailsFinally
  split
  · exact Books.sameOp h hop.symm rfl
  · split
    · split
      · exact h.freeEngine
      · rename_i hd
        exact (h.endCommit hs hop hd (by simp) _).post _
    · split
      · exact h.freeEngine
      · exact h.freeEngine.answer _ _
    · refine nextWipe ?_ _ _
      exact h.congr rfl rfl rfl rfl
    · split
      · exact h.freeEngine
      · rename_i hd
        have he : s.store.engine.endsStart = true := s.store.engine.endsStart_iff.2 ⟨by simpa using hd, _, _, hop⟩
        have hb : Books s.table s.store.commitQ s.store.engine .start := hp.ends he ▸ h
        exact (h.freeEngine.post _).leaveStart rfl (by simpa using hb.noneCommitting he)

/-- R149: an abandoned operation leaves the engine with none, and the record of a commit DIRTY. -/
theorem abandonOp (h : s.Booked) (hs : s.table.sound = true) : s.abandonOp.Booked ∧ s.abandonOp.store.engine.op = none := by
  have hcut : s.cutEngine.Booked ∧ s.cutEngine.store.engine.op = none := by
    unfold State.cutEngine
    split
    · rename_i hop
      exact ⟨h, hop⟩
    · exact ⟨Books.freeEngine h, rfl⟩
  have hrequest : ∀ t : State, t.Booked ∧ t.store.engine.op = none → State.Booked (match t.store.request with
        | some _ => (t.setStore { t.store with request := none }).answer .storeFailed []
        | none => t) ∧ (match t.store.request with
        | some _ => (t.setStore { t.store with request := none }).answer .storeFailed []
        | none => t).store.engine.op = none := by
    rintro t ⟨ht, hop⟩
    split
    · refine ⟨answer ?_ _ _, by simpa using hop⟩
      exact ht.congr rfl rfl rfl rfl
    · exact ⟨ht, hop⟩
  unfold State.abandonOp
  refine hrequest _ ?_
  split
  · rename_i tag pair target image changed hop
    obtain ⟨e, he, hst⟩ := h.find_of_carried hop
    refine ⟨?_, by simpa using hcut.2⟩
    have hb := Books.redirty (Books.freeEngine h) hs ((RecordTable.find_tag he).symm ▸ he) hst
    have hf : s.cutEngine.table.find tag = some e := by simpa using he
    unfold State.Booked
    rw [setStoreState_table hf]
    simpa [State.cutEngine, hop, State.freeEngine] using hb
  · exact ⟨hcut.1.answer _ _, by simpa using hcut.2⟩
  · refine ⟨answer ?_ _ _, by simpa using hcut.2⟩
    exact hcut.1.congr rfl rfl rfl rfl
  · exact hcut
  · exact hcut

/-! ### Starts and the supply -/

theorem startKeepingOp (h : s.Booked) (cause : StartCause) : (s.startKeepingOp cause).Booked := by
  have hb : ∀ g : WriteEngine, (g.op = s.store.engine.op ∧ g.discard = true ∨ g.op = none) →
      Books s.table [] g .start := fun g hg => Books.enterStart h hg
  unfold State.startKeepingOp State.discardOp
  split
  · exact hb _ (.inl ⟨rfl, rfl⟩)
  · rename_i hop
    exact hb _ (.inr hop)

theorem startCuttingOp (h : s.Booked) (hs : s.table.sound = true) : s.startCuttingOp.Booked := by
  obtain ⟨hb, hop⟩ := h.abandonOp hs
  exact Books.enterStart hb (.inr hop)

theorem toFrozen (h : s.Booked) (hs : s.table.sound = true) (hl : s.control.link ≠ .start) : s.toFrozen.Booked := by
  have hquiesced : (if s.control.quiesceWaiting then s.completeQuiesce else s).Booked ∧
      (if s.control.quiesceWaiting then s.completeQuiesce else s).control.link ≠ .start ∧
      (if s.control.quiesceWaiting then s.completeQuiesce else s).table = s.table := by
    split_ifs
    · exact ⟨h.completeQuiesce hl, by simp [State.completeQuiesce, State.toQuiesced, State.move], by simp⟩
    · exact ⟨h, hl, rfl⟩
  simp only [State.toFrozen]
  generalize (if s.control.quiesceWaiting then s.completeQuiesce else s) = u at hquiesced ⊢
  obtain ⟨hu, hlink, htable⟩ := hquiesced
  have hcut : ((u.cutFrame.setFe .initial).setLine u.cutFrame.line.restart).Booked :=
    hu.of_frame (by simp) (by simp) (by simp)
  have habandon := (hcut.abandonOp (by simpa [htable] using hs)).1
  exact habandon.move (by simpa using hlink) (by simp) (by simp) (by simp [State.move])

theorem runStart (hpairs : s.store.array.pairs.length = maxPlaces) (hl : s.control.link = .start) : s.runStart.Booked := by
  have hlen := loadTable_length s.store.array.pairs (by rw [hpairs]; decide)
  have hcap : (loadTable s.store.array.pairs).places ≤ maxPlaces :=
    (List.length_filter_le _ _).trans (hlen.trans hpairs.le)
  have hb : Books (loadTable s.store.array.pairs) [] s.runStart.store.engine .start :=
    Books.loaded hcap (loadTable_noneCommitting _) (by simp [State.runStart, State.beginOp])
  unfold State.Booked
  rw [show s.runStart.control.link = .start from hl]
  exact hb

end State.Booked

end Sys2Proof.Machine
end

section
/-! SUPPORT, SETTLES O6. Every command, and so every step, keeps the Commit Queue's books. -/

namespace Sys2Proof.Machine

theorem State.writtenEntry_tag {s : State} {tag : Tag} {cls : RecordClass} {persistent : Bool} {value : List Byte} :
    (s.writtenEntry tag cls persistent value).tag = tag := by
  unfold State.writtenEntry
  split
  · rename_i e he
    exact (RecordTable.find_tag he : e.tag = tag)
  · rfl

theorem State.engineTakes_iff (s : State) :
    s.engineTakes = true ↔ s.control.link.storeRuns = true ∧ s.store.engine.op = none := by
  simp [State.engineTakes]

namespace State.Booked

variable {s t : State}

/-! ### Requests -/

/-- A request keeps the books if its owner does, which takes it outside START, and outside FROZEN if gated. -/
theorem request (h : Kept s) (code : Byte) (args : List Byte) (sized gated : Bool) (owner : State → State)
    (howner : ∀ t, t.Booked → t.table.sound = true → t.control.link ≠ .start → (gated = true → t.control.link ≠ .frozen) →
      (owner t).Booked) : (s.request code args sized gated owner).Booked := by
  have htaken : (s.taken code args).Booked := h.books.of_frame (by simp) (by simp) (by simp)
  obtain ⟨p, hp, -⟩ | ⟨hp, ⟨c, hc⟩ | ⟨hg, ho⟩⟩ := s.request_cases code args sized gated owner
  · rw [hp]
    exact h.books.of_frame rfl rfl rfl
  · rw [hc]
    exact htaken.answer c []
  · rw [ho]
    have hl : s.control.link ≠ .start := h.port.off_start (by rcases hp with hp | hp <;> simp [hp])
    exact howner _ htaken (by simpa using h.sound) (by simpa using hl) (by simpa using hg)

theorem ownerWrite (h : s.Booked) (hs : s.table.sound = true) (args : List Byte) : (State.ownerWrite args s).Booked := by
  unfold State.ownerWrite
  split
  · exact h.answer _ _
  · rename_i w hw
    split
    · exact h.answer _ _
    · rename_i tag cls persistent hok
      obtain ⟨hactive, htag, -⟩ := s.writeCheck_ok hok
      have hl : s.control.link ≠ .start := by simp [hactive]
      have hc := h.changeEntry hs hl (s.writtenEntry_admits hok (parseWrite_tag hw htag))
      refine answer ?_ _ _
      exact hc.of_frame (by simp [State.applyWrite]) (by simp [State.applyWrite]) (by simp [State.applyWrite])

theorem ownerWatch (h : s.Booked) (hs : s.table.sound = true) (args : List Byte) : (State.ownerWatch args s).Booked := by
  unfold State.ownerWatch
  split
  · rename_i tag setting _ _
    split
    · exact h.answer _ _
    · refine answer ?_ _ _
      have hm := s.modifyEntry_marked tag (fun e => { e with watch := setting }) fun e => ⟨setting, e.unsent, rfl⟩
      obtain ⟨hstanding, hplaces⟩ := hm.standing hs
      have hr := Books.restand h hstanding hplaces
      unfold State.Booked
      simpa using hr
  · exact h.answer _ _

theorem ownerQuiesce (h : s.Booked) (hl : s.control.link ≠ .start) : s.ownerQuiesce.Booked := by
  unfold State.ownerQuiesce
  split
  · exact h.answer _ _
  · exact h.completeQuiesce hl
  · split_ifs
    · exact h.congr rfl rfl rfl rfl
    · exact h.completeQuiesce hl

theorem ownerResume (h : s.Booked) : s.ownerResume.Booked := by
  unfold State.ownerResume
  split_ifs with hq
  · refine answer ?_ _ _
    exact h.move (by simp [hq]) (by simp) (by simp) (by simp [State.move])
  · exact h.answer _ _
  · exact h.answer _ _

theorem ownerNotice (h : s.Booked) : s.ownerNotice.Booked := by
  refine h.of_frame ?_ ?_ ?_ <;> simp

theorem ownerConfigWrite (h : s.Booked) (args : List Byte) : (State.ownerConfigWrite args s).Booked := by
  unfold State.ownerConfigWrite
  split
  · split
    · exact h.answer _ _
    · exact h.congr rfl rfl rfl rfl
  · exact h.answer _ _

theorem ownerWipe (h : s.Booked) : s.ownerWipe.Booked := by
  unfold State.ownerWipe
  split_ifs
  · exact h.congr rfl rfl rfl rfl
  · exact h.answer _ _

/-! ### PUBLISH frames -/

theorem decidePublish (h : s.Booked) (hs : s.table.sound = true) (hl : s.control.link ≠ .start) (f : PublishContent) :
    (s.decidePublish f).Booked := by
  obtain hq | ⟨e, he, -, hq⟩ := s.decidePublish_cases f
  · exact h.quiet hs hq
  · refine (h.changeEntry hs hl he).quiet ?_ hq
    exact (s.changeEntry_evolves e he).sound hs

theorem publishFrame (h : s.Booked) (hs : s.table.sound = true) : Meets (execPublishFrame s) State.Booked := by
  refine .next ?_
  split
  · rename_i hd
    have hl : s.control.link ≠ .start := by
      simp only [State.atDecision, Bool.and_eq_true] at hd
      exact (PortAgrees.not_frozen_of_onBus (by simp_all)).1
    split
    · rename_i f _
      have hdecided := h.decidePublish hs hl f
      have hsound : (s.decidePublish f).table.sound = true := (Advances.decidePublish s f).table.sound hs
      split
      · exact hdecided.quiet hsound (.applyLateLoss _)
      · exact hdecided
    · exact h
  · exact h

theorem lateLossConfirmed (h : s.Booked) (hs : s.table.sound = true) : Meets (execLateLossConfirmed s) State.Booked := by
  refine .next ?_
  split
  · rename_i hc
    have hl : s.control.link ≠ .start := (PortAgrees.not_frozen_of_onBus (by simp_all)).1
    split
    · rename_i f _
      split
      · refine (h.decidePublish hs hl f).quiet ?_ (.applyLateLoss _)
        exact (Advances.decidePublish s f).table.sound hs
      · exact h
    · exact h.quiet hs ((Quiet.refl s).castNone.setReports _)
    · exact h
  · exact h

/-! ### The write engine -/

theorem writeDone (h : Kept s) (current good : Bool) : Meets (execWriteDone current good s) State.Booked := by
  refine .next ?_
  split
  · exact h.books
  · rename_i op hop
    split_ifs
    · exact h.books
    · exact h.books.opSucceeds h.port h.sound hop
    · refine opFails (s := (s.setArray _).useFree 2) ?_ ?_ (by simpa using h.sound) (by simpa using hop)
      · exact h.books.congr rfl rfl rfl rfl
      · exact h.port.of_frame rfl rfl id

theorem writeLimit (h : Kept s) : Meets (execWriteLimit s) State.Booked := by
  refine .next ?_
  split
  · exact h.books
  · rename_i op hop
    split_ifs
    · exact h.books
    · refine opFails (s := (s.setArray _).useFree 2) ?_ ?_ (by simpa using h.sound) (by simpa using hop)
      · exact h.books.congr rfl rfl rfl rfl
      · exact h.port.of_frame rfl rfl id

theorem commitStart (h : s.Booked) (hs : s.table.sound = true) : Meets (execCommitStart s) State.Booked := by
  refine .next ?_
  split_ifs with hc
  · have hop : s.store.engine.op = none := by
      simp only [Bool.and_eq_true] at hc
      exact (s.engineTakes_iff.1 hc.1).2
    split
    · exact h
    · rename_i tag rest hq
      split
      · rename_i e pair he _
        have htag := RecordTable.find_tag he
        subst htag
        exact h.startCommitOn hs he (by simp [hq]) pair
      · exact h.dropHead hs hq ‹_› hop
      · exact h
  · exact h

theorem configWriteStart (h : s.Booked) : Meets (execConfigWriteStart s) State.Booked := by
  refine .next ?_
  split
  · rename_i f _
    split_ifs
    · exact Books.otherOp (g' := ⟨some (.configWrite f), 0, 0, false⟩) h (by simp) (by simp) (by simp)
    · exact h
  · exact h

theorem wipeStart (h : s.Booked) : Meets (execWipeStart s) State.Booked := by
  refine .next ?_
  split
  · split_ifs with hc
    · obtain ⟨hruns, hop⟩ := s.engineTakes_iff.1 hc
      have hl : s.control.link ≠ .start := fun hl => by simp [hl, LinkState.storeRuns] at hruns
      exact Books.otherOp (g' := ⟨some (.wipe 0 true), 0, 0, false⟩) (Books.clearStored h hl hop) (by simp) (by simp) (by simp)
    · exact h
  · exact h

/-! ### Link states, starts and the supply -/

theorem duplicateId (h : s.Booked) : Meets (execDuplicateId s) State.Booked := by
  refine .next ?_
  split_ifs with hb
  · have hl := (PortAgrees.not_frozen_of_onBus hb).1
    have hq : ((s.setReports { s.reports with duplicateId := false }).toQuiesced .duplicateId).Booked :=
      h.move hl (by simp) (by simp) (by simp [State.toQuiesced, State.move])
    unfold State.endWaiting
    split_ifs
    · refine answer ?_ _ _
      exact hq.congr rfl rfl rfl rfl
    · exact hq
  · exact h.of_frame rfl rfl rfl

theorem busStuck (h : s.Booked) : Meets (execBusStuck s) State.Booked := by
  refine .next ?_
  split_ifs with hb
  · exact h.move (PortAgrees.not_frozen_of_onBus hb).1 (by simp) (by simp) (by simp [State.toFaulted, State.move])
  · exact h.of_frame rfl rfl rfl

theorem busRecovered (h : s.Booked) : Meets (execBusRecovered s) State.Booked := by
  refine .next ?_
  split_ifs with hl
  · have hl' : s.control.link = .faulted := hl
    exact h.move (by simp [hl']) (by simp) (by simp) (by simp [State.move])
  · exact h.of_frame rfl rfl rfl

theorem joinComplete (h : s.Booked) : Meets (execJoinComplete s) State.Booked := by
  refine .next ?_
  split_ifs with hl
  · have hl' : s.control.link = .joining := hl
    exact h.move (by simp [hl']) (by simp) (by simp) (by simp [State.move])
  · exact h.of_frame rfl rfl rfl

theorem quiesceComplete (h : s.Booked) : Meets (execQuiesceComplete s) State.Booked := by
  have hcompleted : (if s.control.quiesceWaiting && s.control.link.completesQuiesce then s.completeQuiesce else s).Booked := by
    split_ifs with hc
    · refine h.completeQuiesce fun hl => ?_
      simp [hl, LinkState.completesQuiesce] at hc
    · exact h
  exact .next hcompleted

theorem leaveFrozen (h : s.Booked) (hl : s.control.link = .frozen) : s.leaveFrozen.Booked := by
  refine h.move (by simp [hl]) (by simp) (by simp) ?_
  simp only [State.leaveFrozen]
  split <;> simp [State.move]

theorem resetAssert (h : s.Booked) (lasting : Bool) : Meets (execResetAssert lasting s) State.Booked := by
  have h1 : (if lasting then s else s.useFree 1).Booked := by
    split_ifs
    · exact h
    · exact h.of_frame rfl rfl rfl
  refine .next ?_
  split
  · refine startKeepingOp ?_ _
    exact h1.of_frame rfl rfl rfl
  · exact h1

theorem pfailEdge (h : s.Booked) (asserted : Bool) : (s.pfailEdge asserted).Booked := by
  unfold State.pfailEdge
  split_ifs
  · exact h
  · exact h.congr rfl rfl rfl rfl

theorem setWatch (h : s.Booked) (w : SupplyWatch) : (s.setWatch w).Booked :=
  h.congr rfl rfl rfl rfl

theorem supplyLow (h : s.Booked) (hs : s.table.sound = true) (lasting : Bool) :
    Meets (execSupplyLow s lasting) State.Booked := by
  have h1 : ({ s with pfailPin := true } : State).Booked := h
  have hlow (hl : s.control.link ≠ .start) : (State.takeSupplyLow { s with pfailPin := true }).Booked := by
    unfold State.takeSupplyLow
    split
    · exact h1.toFrozen hs hl
    · exact h1.startCuttingOp hs
  refine .next ?_
  split
  · exact h.pfailEdge true
  · split
    · exact h1
    · split
      · exact h1.setWatch .low
      · exact h1.setWatch .low
      all_goals
        rename_i hl
        exact hlow (by simp [hl])

theorem supplyGood (h : s.Booked) (lasting : Bool) : Meets (execSupplyGood s lasting) State.Booked := by
  have h1 : ({ s with pfailPin := false } : State).Booked := h
  refine .next ?_
  split_ifs with hn hg hl
  · exact h.pfailEdge false
  · exact h1
  · exact h1.leaveFrozen hl
  · exact h1.setWatch .good

end State.Booked

open State.Booked in
/-- R12, R141, R142, R150: every command keeps the books. -/
theorem exec_booked (c : Instr) (s : State) (h : Kept s) : Meets (exec c s) State.Booked := by
  by_cases hq : quietCommand c = true
  · exact (exec_quiet c hq s).mono fun t ht => h.books.quiet h.sound ht
  cases c
  case read args => exact .next (request h _ _ _ _ _ fun t ht _ _ _ => ht.of_frame (by simp) (by simp) (by simp))
  case nextTag args => exact .next (request h _ _ _ _ _ fun t ht _ _ _ => ht.of_frame (by simp) (by simp) (by simp))
  case write args => exact .next (request h _ _ _ _ _ fun t ht hs _ _ => ht.ownerWrite hs args)
  case watch args => exact .next (request h _ _ _ _ _ fun t ht hs _ _ => ht.ownerWatch hs args)
  case status args => exact .next (request h _ _ _ _ _ fun t ht _ _ _ => ht.answer _ _)
  case peers args => exact .next (request h _ _ _ _ _ fun t ht _ _ _ => ht.answer _ _)
  case notice args => exact .next (request h _ _ _ _ _ fun t ht _ _ _ => ht.ownerNotice)
  case quiesce args => exact .next (request h _ _ _ _ _ fun t ht _ hl _ => ht.ownerQuiesce hl)
  case resume args => exact .next (request h _ _ _ _ _ fun t ht _ _ _ => ht.ownerResume)
  case configRead args => exact .next (request h _ _ _ _ _ fun t ht _ _ _ => ht.answer _ _)
  case configWrite args => exact .next (request h _ _ _ _ _ fun t ht _ _ _ => ht.ownerConfigWrite args)
  case wipe args => exact .next (request h _ _ _ _ _ fun t ht _ _ _ => ht.ownerWipe)
  case restart args => exact .next (request h _ _ _ _ _ fun t ht _ _ _ => ht.startKeepingOp _)
  case notACommandCode code args =>
    refine .next ?_
    split_ifs
    · exact h.books
    · exact request h _ _ _ _ _ fun t ht _ _ _ => ht
  case fetch clocked =>
    refine .next (h.books.of_frame ?_ ?_ ?_) <;> simp
  case publishFrame => exact h.books.publishFrame h.sound
  case lateLossConfirmed => exact h.books.lateLossConfirmed h.sound
  case duplicateId => exact h.books.duplicateId
  case busStuck => exact h.books.busStuck
  case busRecovered => exact h.books.busRecovered
  case joinComplete => exact h.books.joinComplete
  case quiesceComplete => exact h.books.quiesceComplete
  case powerUp pfail =>
    refine .next (startCuttingOp ?_ h.sound)
    exact h.books
  case resetAssert lasting => exact h.books.resetAssert lasting
  case startSequence =>
    refine .next ?_
    split_ifs with hc
    · exact runStart (s.tableInv_iff.1 h.table).2 (by simp_all)
    · exact h.books
  case supplyLow lasting => exact h.books.supplyLow h.sound lasting
  case supplyGood lasting => exact h.books.supplyGood lasting
  case commitStart => exact h.books.commitStart h.sound
  case configWriteStart => exact h.books.configWriteStart
  case wipeStart => exact h.books.wipeStart
  case writeDone current good => exact writeDone h current good
  case writeLimit => exact writeLimit h
  all_goals exact absurd rfl hq

theorem exec_kept (c : Instr) (s : State) (h : Kept s) : Meets (exec c s) Kept := by
  obtain ⟨t, ht, hbooks⟩ := exec_booked c s h
  exact ⟨t, ht, (exec_tableInv c s h.table).of_eq ht, (exec_portAgrees c s h.port).of_eq ht, hbooks⟩

/-- The passing of a quantum moves timers alone. -/
theorem Kept.advance {s : State} (h : Kept s) : Kept s.advance where
  table := h.table
  port := h.port.congr rfl rfl rfl rfl rfl id
  books := Books.sameOp h.books rfl rfl

/-- Settles O6, by the books, the table's invariant and the port's, which every command keeps together. -/
theorem commitQueueKept : Obligations.CommitQueueKept := by
  intro s t hs ht
  have hkept := step_preserves (P := Kept) (fun _ _ h => ⟨h.table, h.port.congr rfl rfl rfl rfl rfl id, h.books⟩)
    (fun _ h => h.advance) exec_kept (s.commitInv_iff.1 hs)
  exact t.commitInv_iff.2 (hkept.of_eq ht)

end Sys2Proof.Machine
end

section
/-! SUPPORT, SETTLES O3. Every command leaves the waiting commands and the clock. -/

namespace Sys2Proof.Machine

/-- The commands that wait and the clock are as they were. -/
structure OnTurn (s t : State) : Prop where
  pending : t.pending = s.pending
  now : t.now = s.now

theorem OnTurn.refl (s : State) : OnTurn s s :=
  ⟨rfl, rfl⟩

theorem OnTurn.answer {s t : State} (h : OnTurn s t) (c : ResultCode) (d : List Byte) : OnTurn s (t.answer c d) :=
  ⟨by simpa using h.pending, by simpa using h.now⟩

/-- A request keeps its turn if its owner does. -/
theorem OnTurn.request (s : State) (code : Byte) (args : List Byte) (sized gated : Bool) (owner : State → State)
    (h : ∀ t, OnTurn t (owner t)) : OnTurn s (s.request code args sized gated owner) := by
  have ht : OnTurn s (s.taken code args) := ⟨by simp, by simp⟩
  obtain ⟨p, hp, -⟩ | ⟨-, ⟨c, hc⟩ | ⟨-, ho⟩⟩ := s.request_cases code args sized gated owner
  · rw [hp]
    exact ⟨rfl, rfl⟩
  · rw [hc]
    exact ht.answer c []
  · rw [ho]
    have := h (s.taken code args)
    exact ⟨this.1.trans ht.1, this.2.trans ht.2⟩

/-! ### Operations named by no frame lemma -/

theorem OnTurn.readLines (s : State) (bck bda : Bool) : OnTurn s (s.readLines bck bda) :=
  ⟨by simp [State.readLines], by simp [State.readLines]⟩

theorem OnTurn.pfailEdge (s : State) (asserted : Bool) : OnTurn s (s.pfailEdge asserted) := by
  unfold State.pfailEdge
  split <;> exact ⟨rfl, rfl⟩

theorem OnTurn.decideOther (s : State) (c : FrameContent) (sender : StationId) (hand : State → State)
    (h : OnTurn s (hand s)) : OnTurn s (s.decideOther c sender hand) := by
  unfold State.decideOther
  split_ifs
  · exact ⟨by simp, by simp⟩
  · exact ⟨by simp, by simp⟩
  · exact ⟨by simp, by simp⟩
  · exact ⟨by simpa using h.pending, by simpa using h.now⟩

/-- The end of the own part, whatever the transmit machine has to do before it. -/
theorem OnTurn.leaveFrame {s t : State} (h : OnTurn s t) : OnTurn s t.leaveFrame :=
  ⟨by simpa using h.pending, by simpa using h.now⟩

theorem execEndMark_onTurn (s : State) : Meets (execEndMark s) (OnTurn s) := by
  refine .next ?_
  split_ifs
  · exact .readLines s _ _
  · exact ⟨rfl, rfl⟩
  · refine OnTurn.leaveFrame ?_
    (repeat' split) <;> exact ⟨by simp, by simp⟩
  · exact ⟨rfl, rfl⟩

theorem execRightToOpen_onTurn (s : State) : Meets (execRightToOpen s) (OnTurn s) := by
  refine .next ?_
  dsimp only
  split_ifs
  · exact ⟨by simp, by simp⟩
  · exact ⟨rfl, rfl⟩
  · exact .refl s

theorem execFrameBroken_onTurn (s : State) : Meets (execFrameBroken s) (OnTurn s) := by
  refine .next ?_
  split_ifs
  · refine OnTurn.leaveFrame ?_
    split_ifs <;> exact ⟨by simp, by simp⟩
  · exact .refl s

theorem execBckFall_onTurn (s : State) : Meets (execBckFall s) (OnTurn s) := by
  have hopen : OnTurn s s.takeOwnOpening := by
    unfold State.takeOwnOpening
    split_ifs
    · exact ⟨by simp, by simp⟩
    · exact .refl s
  refine .next ?_
  dsimp only
  split_ifs
  · exact .readLines s _ _
  · exact ⟨rfl, rfl⟩
  · exact ⟨by simpa using hopen.pending, by simpa using hopen.now⟩
  · exact ⟨by simpa using hopen.pending, by simpa using hopen.now⟩
  · exact ⟨by simpa using hopen.pending, by simpa using hopen.now⟩

/-! ### All commands -/

theorem exec_onTurn (c : Instr) (s : State) : Meets (exec c s) (OnTurn s) := by
  cases c
  case read args => exact .next (.request s _ _ _ _ _ fun t => ⟨by simp, by simp⟩)
  case nextTag args => exact .next (.request s _ _ _ _ _ fun t => ⟨by simp, by simp⟩)
  case write args => exact .next (.request s _ _ _ _ _ fun t => ⟨by simp, by simp⟩)
  case watch args => exact .next (.request s _ _ _ _ _ fun t => ⟨by simp, by simp⟩)
  case status args => exact .next (.request s _ _ _ _ _ fun t => (OnTurn.refl t).answer _ _)
  case peers args => exact .next (.request s _ _ _ _ _ fun t => (OnTurn.refl t).answer _ _)
  case notice args => exact .next (.request s _ _ _ _ _ fun t => ⟨by simp, by simp⟩)
  case quiesce args => exact .next (.request s _ _ _ _ _ fun t => ⟨by simp, by simp⟩)
  case resume args => exact .next (.request s _ _ _ _ _ fun t => ⟨by simp, by simp⟩)
  case configRead args => exact .next (.request s _ _ _ _ _ fun t => (OnTurn.refl t).answer _ _)
  case configWrite args => exact .next (.request s _ _ _ _ _ fun t => ⟨by simp, by simp⟩)
  case wipe args => exact .next (.request s _ _ _ _ _ fun t => ⟨by simp, by simp⟩)
  case restart args => exact .next (.request s _ _ _ _ _ fun t => ⟨by simp, by simp⟩)
  case notACommandCode code args =>
    refine .next ?_
    split_ifs
    · exact .refl s
    · exact .request s _ _ _ _ _ fun t => .refl t
  case rightToOpen => exact execRightToOpen_onTurn s
  case endMark => exact execEndMark_onTurn s
  case frameBroken => exact execFrameBroken_onTurn s
  case bckFall => exact execBckFall_onTurn s
  case beaconFrame =>
    refine .next ?_
    split
    · split
      · exact .decideOther s _ _ _ ⟨by simp, by simp⟩
      · exact .refl s
    · exact .refl s
  case digestFrame =>
    refine .next ?_
    split
    · split
      · exact .decideOther s _ _ _ ⟨by simp, by simp⟩
      · exact .refl s
    · exact .refl s
  case pullFrame =>
    refine .next ?_
    split
    · split
      · exact .decideOther s _ _ _ ⟨by simp, by simp⟩
      · exact .refl s
    · exact .refl s
  case supplyLow lasting =>
    refine .next ?_
    split_ifs
    · exact .pfailEdge s _
    · exact ⟨rfl, rfl⟩
    · split <;> exact ⟨by simp, by simp⟩
  case supplyGood lasting =>
    refine .next ?_
    split_ifs
    · exact .pfailEdge s _
    all_goals exact ⟨by simp, by simp⟩
  all_goals
    refine .next ?_
    constructor <;> (repeat' split) <;> simp [State.readLines]

/-- Settles O3: every command is written as a next state, and no operation of a command touches what waits or the clock. -/
theorem everyCommandAnswersNext : Obligations.EveryCommandAnswersNext := by
  intro c s
  obtain ⟨t, ht, hturn⟩ := exec_onTurn c s
  exact ⟨t, ht, hturn.pending, hturn.now⟩

end Sys2Proof.Machine
end

section
/-! SUPPORT, SETTLES O13. The number that a list of bits spells, and the order of pairs. -/

namespace Sys2Proof.Machine

/-! ### Bits as numbers -/

theorem bitsToNat_append (a b : List Bool) : bitsToNat (a ++ b) = bitsToNat a * 2 ^ b.length + bitsToNat b := by
  induction b using List.reverseRecOn with
  | nil => simp [bitsToNat]
  | append_singleton b x ih =>
    simp only [bitsToNat, ← List.append_assoc, List.foldl_append, List.foldl_cons, List.foldl_nil, List.length_append,
      List.length_singleton, pow_succ] at ih ⊢
    rw [ih]
    ring

/-- The first bits of a field, most significant first, spell its number shifted down. -/
theorem bitsToNat_first {n : Nat} (v : BitVec n) {k : Nat} (hk : k ≤ n) :
    bitsToNat ((List.range k).map fun i => v.getLsbD (n - 1 - i)) = v.toNat / 2 ^ (n - k) := by
  induction k with
  | zero => simp [bitsToNat, Nat.div_eq_of_lt v.isLt]
  | succ k ih =>
    have hdiv : v.toNat / 2 ^ (n - k) = v.toNat / 2 ^ (n - 1 - k) / 2 := by
      rw [Nat.div_div_eq_div_mul, ← pow_succ]
      congr 2
      omega
    have hbit : (v.getLsbD (n - 1 - k)).toNat = v.toNat / 2 ^ (n - 1 - k) % 2 := by
      rw [BitVec.getLsbD, Nat.toNat_testBit]
    rw [List.range_succ, List.map_append, bitsToNat_append, ih (by omega), show n - (k + 1) = n - 1 - k by omega, hdiv]
    simp only [bitsToNat, List.map_cons, List.map_nil, List.foldl_cons, List.foldl_nil, List.length_singleton, hbit]
    omega

theorem bitsToNat_msbBits {n : Nat} (v : BitVec n) : bitsToNat (msbBits n v) = v.toNat := by
  simpa [msbBits] using bitsToNat_first v (le_refl n)

@[simp] theorem msbBits_length {n : Nat} (v : BitVec n) : (msbBits n v).length = n := by
  simp [msbBits]

/-- R58: the number that a PUBLISH header spells. -/
theorem publishHeader_toNat (tag : Tag) (p : OrderPair) :
    bitsToNat (Header.bits ⟨.publish, tag, p.version, p.origin⟩) =
      (tag.toNat * 2 ^ 16 + (2 ^ 16 - 1 - p.version.toNat)) * 2 ^ 4 + (2 ^ 4 - 1 - p.origin.toNat) := by
  simp only [Header.bits, FrameKind.bits, bitsToNat_append, bitsToNat_msbBits, msbBits_length, BitVec.toNat_not]
  simp [bitsToNat]

/-! ### Record order (R3) -/

theorem OrderPair.later_iff (p q : OrderPair) : p.later q = true ↔
    q.version.toNat < p.version.toNat ∨ (p.version = q.version ∧ q.origin.toNat < p.origin.toNat) := by
  simp [OrderPair.later]

theorem OrderPair.eq_iff (p q : OrderPair) : p = q ↔ p.version.toNat = q.version.toNat ∧ p.origin.toNat = q.origin.toNat := by
  obtain ⟨v, o⟩ := p
  obtain ⟨w, r⟩ := q
  simp [BitVec.toNat_inj]

/-- Settles O13: version and origin compare as numbers, and a complement turns the order of a field round. -/
theorem recordOrderDecidesContention : Obligations.RecordOrderDecidesContention := by
  refine ⟨fun p q => ⟨p.later_iff q, ?_⟩, fun tag p q => ?_⟩
  · simp only [OrderPair.later_iff, OrderPair.eq_iff, ← BitVec.toNat_inj]
    omega
  · have hpv := p.version.isLt
    have hqv := q.version.isLt
    have hpo := p.origin.isLt
    have hqo := q.origin.isLt
    rw [publishHeader_toNat, publishHeader_toNat, OrderPair.later_iff, ← BitVec.toNat_inj]
    omega

end Sys2Proof.Machine
end

section
/-! SUPPORT, SETTLES O18. The answer to a request in hand, and READ, NEXT and WATCH at the Record Table. -/

namespace Sys2Proof.Machine

/-! ### Answers to a request just taken (R169) -/

theorem State.answered_taken (s : State) (code : Byte) (args : List Byte) (c : ResultCode) (d : List Byte) :
    s.answered ((s.taken code args).answer c d) c d = true := by
  simp [State.answered, State.answer, State.taken, HostPort.shiftRequest]

/-! ### READ (R17) -/

theorem State.ownerRead_badArgument {s : State} {args : List Byte} (h : argRecordTag args = none) :
    State.ownerRead args s = s.answer .badArgument [] := by
  simp [State.ownerRead, h]

theorem State.ownerRead_notFound {s : State} {args : List Byte} {tag : Tag} (h : argRecordTag args = some tag)
    (hn : s.table.find tag = none) : State.ownerRead args s = s.answer .notFound [] := by
  simp [State.ownerRead, h, hn]

theorem State.ownerRead_ok {s : State} {args : List Byte} {tag : Tag} {e : Entry} (h : argRecordTag args = some tag)
    (he : s.table.find tag = some e) : State.ownerRead args s = s.answer .ok e.readData := by
  simp [State.ownerRead, h, he]

theorem RecordClass.byte_eq (c : RecordClass) : c.byte = if c = .owned then 1#8 else 0#8 := by
  cases c <;> rfl

/-! ### NEXT (R18) -/

theorem State.ownerNext_badArgument {s : State} {args : List Byte} (h : argNextTag args = none) :
    State.ownerNext args s = s.answer .badArgument [] := by
  simp [State.ownerNext, h]

theorem State.ownerNext_notFound {s : State} {args : List Byte} {tag : Tag} (h : argNextTag args = some tag)
    (hn : s.table.entries.find? (fun e => decide (tag.toNat < e.tag.toNat)) = none) :
    State.ownerNext args s = s.answer .notFound [] := by
  simp [State.ownerNext, h, hn]

theorem State.ownerNext_ok {s : State} {args : List Byte} {tag : Tag} {e : Entry} (h : argNextTag args = some tag)
    (he : s.table.entries.find? (fun e => decide (tag.toNat < e.tag.toNat)) = some e) :
    State.ownerNext args s = s.answer .ok (tagBytes e.tag) := by
  simp [State.ownerNext, h, he]

/-- R18: in an ascending list the first entry above a number is the lowest one above it. -/
theorem Ascending.find_next {l : List Entry} (h : Ascending l) {n : Nat} {e : Entry} (he : e ∈ l) (hn : n < e.tag.toNat)
    (hlowest : ∀ x ∈ l, n < x.tag.toNat → e.tag.toNat ≤ x.tag.toNat) :
    l.find? (fun x => decide (n < x.tag.toNat)) = some e := by
  induction l with
  | nil => simp at he
  | cons x rest ih =>
    rcases List.mem_cons.1 he with rfl | hmem
    · simp [hn]
    · have hlt := List.rel_of_pairwise_cons h hmem
      have hx : ¬ n < x.tag.toNat := fun hx => by
        have := hlowest x (by simp) hx
        omega
      rw [List.find?_cons_of_neg (by simpa using hx)]
      exact ih h.of_cons hmem fun y hy => hlowest y (List.mem_cons_of_mem _ hy)

/-! ### WATCH (R19) -/

theorem State.ownerWatch_badArgument {s : State} {args : List Byte}
    (h : argRecordTag args = none ∨ byteFlag (args.getD 2 0xFF#8) = none) :
    State.ownerWatch args s = s.answer .badArgument [] := by
  unfold State.ownerWatch
  split
  · simp_all
  · rfl

theorem State.ownerWatch_notFound {s : State} {args : List Byte} {tag : Tag} {setting : Bool}
    (h : argRecordTag args = some tag) (hb : byteFlag (args.getD 2 0xFF#8) = some setting) (hn : s.table.find tag = none) :
    State.ownerWatch args s = s.answer .notFound [] := by
  simp only [State.ownerWatch, h, hb, hn]

theorem State.ownerWatch_ok {s : State} {args : List Byte} {tag : Tag} {setting : Bool} {e : Entry}
    (h : argRecordTag args = some tag) (hb : byteFlag (args.getD 2 0xFF#8) = some setting) (he : s.table.find tag = some e) :
    State.ownerWatch args s = (s.modifyEntry tag fun e => { e with watch := setting }).answer .ok [] := by
  simp only [State.ownerWatch, h, hb, he]

/-- R169: a change of a request's own making to the table leaves the port to answer. -/
theorem State.answered_modifyEntry (s : State) (code : Byte) (args : List Byte) (tag : Tag) (f : Entry → Entry)
    (c : ResultCode) (d : List Byte) : s.answered (((s.taken code args).modifyEntry tag f).answer c d) c d = true := by
  simp [State.answered, State.answer, State.taken, HostPort.shiftRequest]

/-- Settles O18: each of the three is answered by the entry that its tag names. -/
theorem readNextAndWatchUseTheTable : Obligations.ReadNextAndWatchUseTheTable := by
  refine ⟨fun s hi lo hs hl => ?_, fun s hi lo hs hl hasc => ?_, fun s hi lo setting hs hl => ?_⟩
  · refine ⟨_, congrArg Host.Outcome.next (s.request_owner 0x01#8 [hi, lo] true _ hs hl), ?_, fun hbad => ?_,
      fun tag htag h1 h2 => ⟨fun hn => ?_, fun e he => ?_⟩⟩
    · simp [State.keepsAllBut, Block.all, Block.agrees]
    · rw [State.ownerRead_badArgument (argRecordTag_none hi lo [] hbad)]
      exact s.answered_taken _ _ _ _
    · rw [State.ownerRead_notFound (argRecordTag_some hi lo [] tag htag h1 h2) (by simpa using hn)]
      exact s.answered_taken _ _ _ _
    · have hdata := s.answered_taken 0x01#8 [hi, lo] .ok e.readData
      rw [State.ownerRead_ok (argRecordTag_some hi lo [] tag htag h1 h2) (by simpa using he)]
      rw [Entry.readData, RecordTable.find_tag he, tagBytes_eq hi lo tag htag, RecordClass.byte_eq] at hdata ⊢
      exact hdata
  · have hsorted := (ascendingTags_map_tag _).1 hasc
    refine ⟨_, congrArg Host.Outcome.next (s.request_owner 0x02#8 [hi, lo] true _ hs hl), ?_, fun hbad => ?_, fun hok => ?_⟩
    · simp [State.keepsAllBut, Block.all, Block.agrees]
    · rw [State.ownerNext_badArgument (argNextTag_none hi lo [] hbad)]
      exact s.answered_taken _ _ _ _
    · obtain ⟨tag, htag, hnat⟩ := argNextTag_some hi lo [] hok
      rw [← hnat]
      refine ⟨fun hall => ?_, fun e he hlt hlowest => ?_⟩
      · rw [State.ownerNext_notFound htag (by simpa using hall)]
        exact s.answered_taken _ _ _ _
      · have hbytes : tagBytes e.tag = [BitVec.ofNat 8 (e.tag.toNat / 256), BitVec.ofNat 8 (e.tag.toNat % 256)] := by
          refine tagBytes_eq _ _ _ ?_
          have := e.tag.isLt
          simp only [BitVec.toNat_ofNat]
          omega
        rw [State.ownerNext_ok htag (by simpa using hsorted.find_next he hlt hlowest), hbytes]
        exact s.answered_taken _ _ _ _
  · have hbyte : ([hi, lo, setting] : List Byte).getD 2 0xFF#8 = setting := rfl
    refine ⟨_, congrArg Host.Outcome.next (s.request_owner 0x04#8 [hi, lo, setting] true _ hs hl), ?_, fun hbad => ?_,
      fun tag htag h1 h2 hset => ⟨fun hn => ?_, fun e he => ?_⟩⟩
    · simp [State.keepsAllBut, Block.all, Block.agrees]
    · rw [State.ownerWatch_badArgument]
      · exact ⟨s.answered_taken _ _ _ _, by simp⟩
      · rw [hbyte]
        rcases hbad with hbad | hbad | hbad
        · exact .inl (argRecordTag_none hi lo _ (.inl hbad))
        · exact .inl (argRecordTag_none hi lo _ (.inr hbad))
        · exact .inr (byteFlag_none setting hbad)
    · rw [State.ownerWatch_notFound (argRecordTag_some hi lo [setting] tag htag h1 h2) (byteFlag_some _ hset)
        (by simpa using hn)]
      exact ⟨s.answered_taken _ _ _ _, by simp⟩
    · have hf : (s.taken 0x04#8 [hi, lo, setting]).table.find tag = some e := by simpa using he
      rw [State.ownerWatch_ok (argRecordTag_some hi lo [setting] tag htag h1 h2) (byteFlag_some setting hset) hf]
      refine ⟨s.answered_modifyEntry _ _ _ _ _ _, ?_, fun u => ?_⟩
      · have hsum := (s.taken 0x04#8 [hi, lo, setting]).modifyEntry_summary tag
          (fun e => { e with watch := setting == 1#8 }) fun e => ⟨rfl, rfl⟩
        simpa using hsum
      · have htag' : e.tag = tag := RecordTable.find_tag he
        simpa using (s.taken 0x04#8 [hi, lo, setting]).modifyEntry_find tag _ e hf htag' u

end Sys2Proof.Machine
end

section
/-! SUPPORT, SETTLES O19, O20, O21. WRITE at the Record Table. -/

namespace Sys2Proof.Machine

/-! ### Table 6 -/

/-- The class a class byte in range names. -/
def classOf (cls : Byte) : RecordClass :=
  if cls = 1#8 then .owned else .common

/-- A row of Table 6: a failed check gives its result, a met one the next row's. -/
theorem elim_check {α : Type} (c : Prop) [Decidable c] (code : ResultCode) (next : Option ResultCode)
    (ok : Except ResultCode α) :
    (if c then some code else next).elim ok .error = if c then .error code else next.elim ok .error := by
  split_ifs <;> rfl

/-- R8: the checks of Table 6, as its rows read, are those that a parsed WRITE meets. -/
theorem State.writeCheck_eq (s : State) (hi lo cls per len : Byte) (value : List Byte) (hlen : value.length = len.toNat) :
    s.writeCheck ⟨argRecordTag [hi, lo], (byteFlag cls).map (fun b => if b then .owned else .common), byteFlag per, value⟩ =
      (s.table6 hi lo cls per len).elim
        (.ok (BitVec.ofNat 12 (256 * hi.toNat + lo.toNat), classOf cls, per == 1#8)) .error := by
  unfold State.writeCheck State.table6
  by_cases hactive : s.control.link = .active
  swap
  · simp [hactive]
  simp only [hactive, bne_self_eq_false, Bool.false_eq_true, if_false, ne_eq, not_true_eq_false, hlen]
  by_cases htag : 256 * hi.toNat + lo.toNat = 0 ∨ 0xFFF ≤ 256 * hi.toNat + lo.toNat
  · rw [argRecordTag_none hi lo [] htag, if_pos (by tauto)]
    rfl
  rw [argRecordTag_some hi lo [] (BitVec.ofNat 12 (256 * hi.toNat + lo.toNat)) (by simp; omega) (by simp; omega)
    (by simp; omega)]
  by_cases hcls : 1 < cls.toNat
  · rw [byteFlag_none cls hcls, if_pos (by tauto)]
    rfl
  by_cases hper : 1 < per.toNat
  · rw [byteFlag_none per hper, byteFlag_some cls (by omega), if_pos (by tauto)]
    rfl
  rw [byteFlag_some cls (by omega), byteFlag_some per (by omega)]
  by_cases hlong : 32 < len.toNat
  · rw [if_pos (by tauto)]
    simp [maxLength, hlong]
  rw [if_neg (by tauto)]
  have hshort : ¬maxLength < len.toNat := hlong
  have hcls' : (if (cls == 1#8) = true then RecordClass.owned else .common) = classOf cls := by simp [classOf]
  simp only [elim_check, Option.elim_none, Option.map_some, hshort, hcls', if_false, Bool.and_eq_true,
    Option.isNone_iff_eq_none, decide_eq_true_eq]
  rfl

/-- Table 6: a row that gives no result is met, and the next gives none. -/
theorem check_eq_none (c : Prop) [Decidable c] (code : ResultCode) (next : Option ResultCode) :
    (if c then some code else next) = none ↔ ¬c ∧ next = none := by
  split_ifs with hc <;> simp [hc]

/-- Table 6: what a WRITE that meets every check has met. -/
structure Accepts (s : State) (tag : Tag) (cls per len : Byte) : Prop where
  active : s.control.link = .active
  inRange : 1 ≤ tag.toNat ∧ tag.toNat ≤ 0xFFE
  bytes : len.toNat ≤ 32 ∧ cls.toNat ≤ 1 ∧ per.toNat ≤ 1
  room : s.table.find tag = none → s.table.entries.length < 96
  held : ∀ e, s.table.find tag = some e → e.cls = classOf cls ∧ e.persistent = (per == 1#8) ∧
    (e.cls = .owned → e.owner = some s.control.ownId) ∧ e.pair.version ≠ 0xFFFF#16
  unwanted : s.sync.wanted.any (fun w => w.tag == tag) = false
  place : (findItem s.sendQ (.publish tag false)).isSome = true ∨ s.sendQ.length < 16

theorem State.table6_eq_none {s : State} {hi lo : Byte} (cls per len : Byte) {tag : Tag}
    (htag : 256 * hi.toNat + lo.toNat = tag.toNat) : s.table6 hi lo cls per len = none ↔ Accepts s tag cls per len := by
  have hnumber : BitVec.ofNat 12 tag.toNat = tag := by simp
  simp only [State.table6, check_eq_none, htag, hnumber, ne_eq, not_not, not_or, not_and, not_lt, not_le, and_true]
  constructor
  · rintro ⟨hactive, ⟨h0, h1, hbytes⟩, hroom, hmis, howner, hmax, hwanted, hplace⟩
    refine ⟨hactive, by omega, hbytes, hroom, fun e he => ?_, by simpa using hwanted, ?_⟩
    · simp only [he, Option.any_some, Bool.or_eq_true, bne_iff_ne, ne_eq, not_or, not_not, Bool.and_eq_true, beq_iff_eq,
        not_and] at hmis howner hmax
      exact ⟨hmis.1, hmis.2, howner, hmax⟩
    · cases hf : findItem s.sendQ (.publish tag false) with
      | none => exact .inr (hplace (by simp [hf]))
      | some it => exact .inl rfl
  · rintro ⟨hactive, htags, hbytes, hroom, hheld, hwanted, hplace⟩
    refine ⟨hactive, ⟨by omega, by omega, hbytes⟩, hroom, ?_, ?_, ?_, by simpa using hwanted, fun hn => ?_⟩
    iterate 3
      cases he : s.table.find tag with
      | none => simp
      | some e =>
        obtain ⟨hcls, hper, howner, hmax⟩ := hheld e he
        simp_all [classOf]
    · refine hplace.resolve_left fun hc => ?_
      rw [Option.isNone_iff_eq_none] at hn
      simp [hn] at hc

theorem State.table6_taken (s : State) (code : Byte) (args : List Byte) (hi lo cls per len : Byte) :
    (s.taken code args).table6 hi lo cls per len = s.table6 hi lo cls per len := by
  simp [State.table6]

theorem State.ownerWrite_refused {s : State} {hi lo cls per len : Byte} {value : List Byte} {code : ResultCode}
    (hlen : value.length = len.toNat) (h : s.table6 hi lo cls per len = some code) :
    State.ownerWrite ([hi, lo, cls, per, len] ++ value) s = s.answer code [] := by
  simp only [State.ownerWrite, parseWrite_sized _ _ _ _ _ _ hlen, s.writeCheck_eq hi lo cls per len value hlen, h,
    Option.elim_some]

theorem State.ownerWrite_accepted {s : State} {hi lo cls per len : Byte} {value : List Byte} {tag : Tag}
    (hlen : value.length = len.toNat) (htag : 256 * hi.toNat + lo.toNat = tag.toNat)
    (h : s.table6 hi lo cls per len = none) :
    State.ownerWrite ([hi, lo, cls, per, len] ++ value) s =
      (s.applyWrite (s.writtenEntry tag (classOf cls) (per == 1#8) value)).answer .ok
        (s.writtenEntry tag (classOf cls) (per == 1#8) value).pair.writeData := by
  simp only [State.ownerWrite, parseWrite_sized _ _ _ _ _ _ hlen, s.writeCheck_eq hi lo cls per len value hlen, h,
    Option.elim_none, htag, BitVec.ofNat_toNat, BitVec.setWidth_eq]

/-- A WRITE of the right size, taken outside FROZEN, goes to the Record Table. -/
theorem exec_write (s : State) (hi lo cls per len : Byte) (value : List Byte) (hs : s.takesRequest = true)
    (hl : s.control.link ≠ .frozen) (hlen : value.length = len.toNat) :
    exec (.write ([hi, lo, cls, per, len] ++ value)) s =
      .next (State.ownerWrite ([hi, lo, cls, per, len] ++ value) (s.taken 0x03#8 ([hi, lo, cls, per, len] ++ value))) := by
  have hsized : (parseWrite ([hi, lo, cls, per, len] ++ value)).isSome = true := by
    rw [parseWrite_sized _ _ _ _ _ _ hlen]
    rfl
  have ho := s.request_owner 0x03#8 ([hi, lo, cls, per, len] ++ value) true
    (State.ownerWrite ([hi, lo, cls, per, len] ++ value)) hs hl
  refine congrArg Host.Outcome.next (Eq.trans ?_ ho)
  rw [hsized]

/-- Settles O19: a refused WRITE ends at the check that refuses it, with the answer alone. -/
theorem refusedWriteChangesNothing : Obligations.RefusedWriteChangesNothing := by
  intro s hi lo cls per len value code hs hl hlen hcode
  refine ⟨_, exec_write s hi lo cls per len value hs hl hlen, ?_, ?_⟩
  all_goals rw [State.ownerWrite_refused hlen ((s.table6_taken _ _ _ _ _ _ _).trans hcode)]
  · exact s.answered_taken _ _ _ _
  · simp [State.keepsAllBut, Block.all, Block.agrees]

/-! ### An accepted WRITE (R10, R11, R13) -/

/-- Table 8: the notice of a change that leaves the record UNSTORED. -/
theorem State.noteUnstored_notices (s : State) (tag : Tag) : (s.noteUnstored tag).port.notices =
    if (s.table.find tag).map (·.storeState) = some .unstored then
      postInto s.port.notices (.commitFailed (some tag) .storeFull) else s.port.notices := by
  unfold State.noteUnstored
  cases h : s.table.find tag with
  | none => simp
  | some e =>
    by_cases hu : e.storeState = .unstored <;> simp [hu, HostPort.setNotices]

theorem State.noteUnstored_request (s : State) (tag : Tag) : (s.noteUnstored tag).port.state = s.port.state ∧
    (s.noteUnstored tag).port.overrun = s.port.overrun := by
  unfold State.noteUnstored
  split
  · split_ifs <;> simp [HostPort.setNotices]
  · simp

/-- Table 7: no PUBLISH item for the tag, and a place in the queue. -/
theorem State.claimWritten_absent {s : State} {tag : Tag} (hbus : s.onBus = true)
    (hn : findItem s.sendQ (.publish tag false) = none) (hroom : s.sendQ.length < maxItems) :
    s.claimWritten tag = s.setQueue (s.sendQ ++ [⟨.publish tag false, false, 0⟩]) := by
  have hplaced : s.appendAnswer (.publish tag false) = .placed := (s.appendAnswer_placed_iff _).2 ⟨hbus, hn, hroom⟩
  simp [State.claimWritten, hplaced, placeItem, SendItem.fresh]

/-- Table 7: a PUBLISH item for the tag. -/
theorem State.claimWritten_present {s : State} {tag : Tag} {it : SendItem} (hbus : s.onBus = true)
    (hit : findItem s.sendQ (.publish tag false) = some it) :
    s.claimWritten tag = if it.inFlight then s.setQueue (markAgain s.sendQ tag) else s := by
  have hpresent : s.appendAnswer (.publish tag false) = .present it.inFlight := by simp [State.appendAnswer, hbus, hit]
  cases hf : it.inFlight <;> simp [State.claimWritten, hpresent, hf]

theorem markAgain_eq (q : List SendItem) (tag : Tag) : markAgain q tag = q.map fun x =>
    if x.inFlight && x.payload.sameItem (.publish tag false) then { x with payload := .publish tag true } else x := by
  refine List.map_congr_left fun x _ => ?_
  obtain ⟨payload, inFlight, attempts⟩ := x
  cases payload with
  | publish t again =>
    rw [show Payload.sameItem (.publish t again) (.publish tag false) = (t == tag) from rfl]
    by_cases ht : t = tag
    · cases inFlight <;> simp [ht]
    · simp [ht]
  | pull => simp [show Payload.sameItem .pull (.publish tag false) = false from rfl]
  | digest => simp [show Payload.sameItem .digest (.publish tag false) = false from rfl]
  | beacon => simp [show Payload.sameItem .beacon (.publish tag false) = false from rfl]

/-- R70: the transmit machine at a queue that is not empty. -/
theorem TxMachine.follow_append (tx : TxMachine) (q : List SendItem) (x : SendItem) :
    tx.follow (q ++ [x]) = if tx = .idle then .waiting else tx := by
  cases tx <;> simp [TxMachine.follow]

/-- The entry a change puts into the table. -/
def State.stored (s : State) (e : Entry) : Entry :=
  { e with storeState := storeStateAfter e.persistent s.table.placeFree ((s.table.find e.tag).map (·.storeState)) }

/-- The claim of a WRITE reads the link state, the queue and the transmit machine alone. -/
theorem State.claimWritten_congr {s t : State} (hcontrol : t.control = s.control) (hq : t.sendQ = s.sendQ) (hfe : t.fe = s.fe)
    (tag : Tag) :
    (t.claimWritten tag).sendQ = (s.claimWritten tag).sendQ ∧ (t.claimWritten tag).fe = (s.claimWritten tag).fe := by
  have hanswer : t.appendAnswer (.publish tag false) = s.appendAnswer (.publish tag false) := by
    simp only [State.appendAnswer, State.onBus_congr hcontrol, hq]
  unfold State.claimWritten
  rw [hanswer]
  split <;> simp [hq, hfe]

/-- R10, R11, R13: an accepted WRITE, block by block. -/
structure Written (s : State) (e : Entry) (t : State) : Prop where
  table : t.table = s.table.put (s.stored e)
  store : t.store = (s.changeEntry e).store
  sendQ : t.sendQ = (s.claimWritten e.tag).sendQ
  fe : t.fe = (s.claimWritten e.tag).fe
  notices : t.port.notices = if (s.stored e).storeState = .unstored then
    postInto s.port.notices (.commitFailed (some e.tag) .storeFull) else s.port.notices
  answered : s.answeredWith t .ok e.pair.writeData = true
  others : s.keepsAllBut t [.port, .table, .sendQ, .fe, .store] = true

theorem State.applyWrite_written (s : State) (code : Byte) (args : List Byte) (e : Entry) :
    Written s e (((s.taken code args).applyWrite e).answer .ok e.pair.writeData) := by
  have htable : ((s.taken code args).changeEntry e).table = s.table.put (s.stored e) := by
    rw [State.changeEntry_table, (s.taken_frame code args).2.2.2.2.2.2.2.2.1]
    rfl
  have hstore : ((s.taken code args).changeEntry e).store = (s.changeEntry e).store := by
    rw [State.changeEntry_store, State.changeEntry_store]
    simp
  have hclaim := State.claimWritten_congr (s := s) (t := (s.taken code args).changeEntry e) (by simp) (by simp) (by simp) e.tag
  have hport : (((s.taken code args).changeEntry e).claimWritten e.tag).port = (s.taken code args).port := by simp
  have hrequest := (((s.taken code args).changeEntry e).claimWritten e.tag).noteUnstored_request e.tag
  have hnotices := (((s.taken code args).changeEntry e).claimWritten e.tag).noteUnstored_notices e.tag
  rw [hport] at hrequest hnotices
  exact {
    table := by simpa [State.applyWrite] using htable
    store := by simpa [State.applyWrite] using hstore
    sendQ := by simpa [State.applyWrite] using hclaim.1
    fe := by simpa [State.applyWrite] using hclaim.2
    notices := by
      have htag : (s.stored e).tag = e.tag := rfl
      have hfind : ((s.table.put (s.stored e)).find e.tag).map (·.storeState) = some (s.stored e).storeState := by
        rw [RecordTable.find_put, htag, if_pos rfl]
        rfl
      have hclaimed : (((s.taken code args).changeEntry e).claimWritten e.tag).table = s.table.put (s.stored e) := by
        simpa using htable
      simp only [hclaimed, hfind, Option.some_inj] at hnotices
      simpa [State.applyWrite] using hnotices
    answered := by
      simp only [State.answeredWith, Bool.and_eq_true, beq_iff_eq]
      have hworking : (((s.taken code args).applyWrite e)).port.state = .working := by simpa [State.applyWrite] using hrequest.1
      rw [State.answer_working _ _ _ hworking]
      simpa [State.applyWrite] using hrequest.2
    others := by simp [State.keepsAllBut, Block.all, Block.agrees] }

/-- R8 to R13: a WRITE that meets every check of Table 6. -/
theorem exec_write_accepted (s : State) (hi lo cls per len : Byte) (value : List Byte) (tag : Tag) (hs : s.takesRequest = true)
    (hlen : value.length = len.toNat) (htag : 256 * hi.toNat + lo.toNat = tag.toNat)
    (h : s.table6 hi lo cls per len = none) :
    ∃ t, exec (.write ([hi, lo, cls, per, len] ++ value)) s = .next t ∧
      Written s (s.writtenEntry tag (classOf cls) (per == 1#8) value) t := by
  have hl : s.control.link ≠ .frozen := by simp [((State.table6_eq_none cls per len htag).1 h).active]
  have hentry : (s.taken 0x03#8 ([hi, lo, cls, per, len] ++ value)).writtenEntry tag (classOf cls) (per == 1#8) value =
      s.writtenEntry tag (classOf cls) (per == 1#8) value := by
    simp [State.writtenEntry]
  refine ⟨_, exec_write s hi lo cls per len value hs hl hlen, ?_⟩
  rw [State.ownerWrite_accepted hlen htag ((s.table6_taken _ _ _ _ _ _ _).trans h), hentry]
  exact s.applyWrite_written _ _ _

theorem State.writtenEntry_held {s : State} {tag : Tag} {e : Entry} (he : s.table.find tag = some e) (cls : RecordClass)
    (persistent : Bool) (value : List Byte) : s.writtenEntry tag cls persistent value =
      { e with pair := ⟨e.pair.version + 1#16, s.control.ownId⟩, value := value, unsent := true } := by
  simp [State.writtenEntry, he]

theorem State.writtenEntry_absent {s : State} {tag : Tag} (hn : s.table.find tag = none) (cls : RecordClass)
    (persistent : Bool) (value : List Byte) : s.writtenEntry tag cls persistent value =
      ⟨tag, cls, persistent, if cls = .owned then some s.control.ownId else none, ⟨1#16, s.control.ownId⟩, value, false, .none,
        true⟩ := by
  simp [State.writtenEntry, hn]

theorem insertEntry_length_absent {e : Entry} {l : List Entry} (h : l.find? (fun x => x.tag == e.tag) = none) :
    (insertEntry e l).length = l.length + 1 := by
  induction l with
  | nil => rfl
  | cons x rest ih =>
    have hall := List.find?_eq_none.1 h
    have hrest := List.find?_eq_none.2 fun y hy => hall y (List.mem_cons_of_mem _ hy)
    have hne : ¬(e.tag == x.tag) = true := fun hc => hall x (by simp) (by rwa [BEq.comm])
    unfold insertEntry
    rw [if_neg hne]
    split_ifs
    · rfl
    · simp [ih hrest]

/-- Settles O20: an accepted WRITE puts one entry into the table, the held one's next version or a new one at version 1. -/
theorem writeMakesAVersion : Obligations.WriteMakesAVersion := by
  constructor
  · intro s hi lo cls per len value tag e hs hactive hlen hlong htag h1 h2 he hcls hper howner hmax hwanted hroom
    have haccepts : Accepts s tag cls per len := by
      refine ⟨hactive, ⟨h1, h2⟩, ⟨hlong, ?_, ?_⟩, by simp [he], fun x hx => ?_, hwanted, hroom⟩
      · rw [hcls]; split_ifs <;> decide
      · rw [hper]; split_ifs <;> decide
      · obtain rfl : e = x := by simpa [he] using hx
        refine ⟨?_, ?_, howner, hmax⟩
        · rw [hcls]; cases e.cls <;> rfl
        · rw [hper]; cases e.persistent <;> rfl
    obtain ⟨t, ht, hw⟩ := exec_write_accepted s hi lo cls per len value tag hs hlen htag
      ((State.table6_eq_none cls per len htag).2 haccepts)
    rw [s.writtenEntry_held he] at hw
    have hetag : e.tag = tag := RecordTable.find_tag he
    refine ⟨t, s.stored { e with pair := ⟨e.pair.version + 1#16, s.control.ownId⟩, value := value, unsent := true }, ht,
      hw.answered, hw.others, ?_, ?_, ?_, rfl, fun u => ?_, ?_⟩
    · rw [hw.store]; rfl
    · rw [hw.store]; rfl
    · rw [hw.store]; rfl
    · rw [hw.table, RecordTable.find_put]
      simp [State.stored, hetag]
    · rw [hw.table, RecordTable.put_summary]
      simp [State.stored, hetag, RecordTable.heldTerm, he]
  · intro s hi lo cls per len value tag hs hactive hlen hlong htag h1 h2 hn hcap hcls hper hwanted hroom
    have haccepts : Accepts s tag cls per len :=
      ⟨hactive, ⟨h1, h2⟩, ⟨hlong, hcls, hper⟩, fun _ => hcap, by simp [hn], hwanted, hroom⟩
    obtain ⟨t, ht, hw⟩ := exec_write_accepted s hi lo cls per len value tag hs hlen htag
      ((State.table6_eq_none cls per len htag).2 haccepts)
    rw [s.writtenEntry_absent hn] at hw
    have howned : classOf cls = .owned ↔ cls = 1#8 := by unfold classOf; split_ifs <;> simp_all
    refine ⟨t, s.stored ⟨tag, classOf cls, per == 1#8, if classOf cls = .owned then some s.control.ownId else none,
      ⟨1#16, s.control.ownId⟩, value, false, .none, true⟩, ht, ?_, hw.others, ?_, fun u => ?_, ?_, ?_⟩
    · simpa [OrderPair.writeData, bytes16] using hw.answered
    · simp only [State.stored, howned]
      rfl
    · rw [hw.table, RecordTable.find_put]
      rfl
    · rw [hw.table]
      exact insertEntry_length_absent hn
    · rw [hw.table, RecordTable.put_summary]
      simp [State.stored, RecordTable.heldTerm, hn]

/-- R2: a version keeps whether its record is persistent, which an accepted WRITE names. -/
theorem State.writtenEntry_persistent {s : State} {tag : Tag} {cls per len : Byte} (h : Accepts s tag cls per len)
    (value : List Byte) : (s.writtenEntry tag (classOf cls) (per == 1#8) value).persistent = (per == 1#8) := by
  unfold State.writtenEntry
  split
  · rename_i e he
    exact (h.held e he).2.1
  · rfl

/-- R143: the changed mark of a commit of the record is set. -/
theorem WriteEngine.markChanged_of_commit {g : WriteEngine} {tag : Tag} {pair : Nat} {target : SlotName} {image : SlotImage}
    {changed : Bool} (h : g.op = some (.commit tag pair target image changed)) :
    g.markChanged tag = { g with op := some (.commit tag pair target image true) } := by
  simp [WriteEngine.markChanged, h]

/-- R143: what the engine does for anything but that record stays. -/
theorem WriteEngine.markChanged_of_other {g : WriteEngine} {tag : Tag}
    (h : ∀ pair target image changed, g.op ≠ some (.commit tag pair target image changed)) : g.markChanged tag = g := by
  unfold WriteEngine.markChanged
  split
  · rename_i u pair target image changed hop
    have hne : (u == tag) = false := by
      simp only [beq_eq_false_iff_ne]
      rintro rfl
      exact h _ _ _ _ hop
    rw [hne, Bool.or_false, ← hop]
  · rfl

/-- R13: the Commit Queue after a change that leaves the record with a store state. -/
theorem queueCommit_if (q : List Tag) (tag : Tag) (after : StoreState) :
    (if after = .dirty then queueCommit q tag else q) = if after = .dirty ∧ tag ∉ q then q ++ [tag] else q := by
  unfold queueCommit
  by_cases hd : after = .dirty <;> by_cases hm : tag ∈ q <;> simp [hd, hm]

/-- Settles O21: the claim of Table 7, the store state of Table 8, and what R13 does with it. -/
theorem writeReachesTheQueues : Obligations.WriteReachesTheQueues := by
  intro s hi lo cls per len value tag hs hlen htag h6 room before after
  have haccepts := (State.table6_eq_none cls per len htag).1 h6
  obtain ⟨t, ht, hw⟩ := exec_write_accepted s hi lo cls per len value tag hs hlen htag h6
  have hpersistent := s.writtenEntry_persistent haccepts value
  have hetag : (s.writtenEntry tag (classOf cls) (per == 1#8) value).tag = tag := s.writtenEntry_tag
  generalize s.writtenEntry tag (classOf cls) (per == 1#8) value = e at hw hpersistent hetag
  subst hetag
  have hafter : (s.stored e).storeState = after := by
    have hper : per = 0#8 ∨ per = 1#8 := by
      have := haccepts.bytes.2.2
      bv_omega
    simp only [State.stored, hpersistent, storeStateAfter]
    rcases hper with rfl | rfl
    · rfl
    · simp only [after, before]
      cases s.table.find e.tag with
      | none => rfl
      | some x => cases x.storeState <;> rfl
  have hbus : s.onBus = true := s.onBus_iff.2 (.inr haccepts.active)
  refine ⟨t, ht, ?_, ?_, ?_, ?_, ?_, ?_, ?_, hw.others⟩
  · rw [hw.sendQ, hw.fe]
    cases hit : findItem s.sendQ (.publish e.tag false) with
    | none =>
      have hroom := haccepts.place.resolve_left (by simp [hit])
      rw [s.claimWritten_absent hbus hit hroom, State.setQueue_fe, TxMachine.follow_append]
      exact ⟨rfl, rfl⟩
    | some it =>
      rw [s.claimWritten_present hbus hit]
      dsimp only
      split_ifs
      · exact markAgain_eq s.sendQ e.tag
      · exact ⟨rfl, rfl⟩
  · have hput : (s.table.put (s.stored e)).find e.tag = some (s.stored e) :=
      (RecordTable.find_put _ _ _).trans (if_pos rfl)
    rw [hw.table, hput, ← hafter]
    rfl
  · rw [hw.store, ← hafter]
    exact queueCommit_if s.store.commitQ e.tag (s.stored e).storeState
  · rw [hw.notices, hafter]
    rfl
  · intro pair target image changed hop
    rw [hw.store]
    exact WriteEngine.markChanged_of_commit hop
  · intro hop
    rw [hw.store]
    exact WriteEngine.markChanged_of_other hop
  · rw [hw.store]
    rfl

end Sys2Proof.Machine
end

section
/-! SUPPORT, SETTLES O38. The rise of BCK at which a transmitter takes the REJECT slot, and the completion of a PUBLISH item. -/

namespace Sys2Proof.Machine

/-! ### Completions of a PUBLISH item (R86, R87) -/

/-- R99: the Send Queue after the head PUBLISH item is removed in JOINING or ACTIVE. -/
def removedQueue (tag : Tag) (again : Bool) (rest : List SendItem) : List SendItem :=
  if again then rest ++ [⟨.publish tag false, false, 0⟩] else rest

theorem afterRemoval_publish (tag : Tag) (again : Bool) (n : Nat) (rest : List SendItem) :
    afterRemoval true ⟨.publish tag again, true, n⟩ rest = removedQueue tag again rest := by
  cases again <;> rfl

section Head
variable {s : State} {tag : Tag} {again : Bool} {n : Nat} {rest : List SendItem} {f : Snapshot}

theorem State.countAttempt_again (hq : s.sendQ = ⟨.publish tag again, true, n⟩ :: rest) (hn : n + 1 < maxAttempts) :
    s.countAttempt = s.setSendQ (⟨.publish tag again, false, n + 1⟩ :: rest) := by
  simp only [State.countAttempt, hq, if_true, hn]
  rfl

theorem State.complete_rejected (hbus : s.onBus = true) (hq : s.sendQ = ⟨.publish tag again, true, n⟩ :: rest)
    (hf : s.fe.snapshot = some f) : s.complete .rejected =
      (s.setSendQ (removedQueue tag again rest)).post ⟨.rejected, some tag, none, f.captured, none⟩ := by
  simp only [State.complete, hq, hf, hbus, if_true, afterRemoval_publish]
  rfl

theorem State.complete_undelivered (hbus : s.onBus = true) (hq : s.sendQ = ⟨.publish tag again, true, n⟩ :: rest)
    (hf : s.fe.snapshot = some f) : s.complete .undelivered =
      (s.setSendQ (removedQueue tag again rest)).post ⟨.undelivered, some tag, none, f.captured, some .publish⟩ := by
  simp only [State.complete, hq, hf, hbus, if_true, afterRemoval_publish]
  rfl

/-- R14: DELIVERED and UNHEARD clear the pending mark. -/
theorem State.complete_sent (hbus : s.onBus = true) (hq : s.sendQ = ⟨.publish tag again, true, n⟩ :: rest)
    (hf : s.fe.snapshot = some f) {o : Outcome} (ho : o = .delivered ∨ o = .unheard) : s.complete o =
      (s.setSendQ (removedQueue tag again rest)).clearUnsent tag f.captured := by
  rcases ho with rfl | rfl
  all_goals
    simp only [State.complete, hq, hf, hbus, if_true, afterRemoval_publish]
    rfl

theorem State.countAttempt_last (hbus : s.onBus = true) (hq : s.sendQ = ⟨.publish tag again, true, n⟩ :: rest)
    (hf : s.fe.snapshot = some f) (hn : ¬n + 1 < maxAttempts) : s.countAttempt =
      (s.setSendQ (removedQueue tag again rest)).post ⟨.undelivered, some tag, none, f.captured, some .publish⟩ := by
  simp only [State.countAttempt, hq, if_true, hn, if_false]
  exact State.complete_undelivered (s := s.setSendQ (⟨.publish tag again, true, n + 1⟩ :: rest)) hbus rfl hf

end Head

/-- R14: the pending mark of the record is cleared if the captured pair is the one held. -/
theorem State.clearUnsent_find (s : State) (tag : Tag) (captured : Option OrderPair) (u : Tag) :
    (s.clearUnsent tag captured).table.find u = (s.table.find u).map fun e =>
      if u = tag ∧ captured = some e.pair then { e with unsent := false } else e := by
  unfold State.clearUnsent
  cases he : s.table.find tag with
  | none =>
    have hnone : s.modifyEntry tag (fun e => if captured = some e.pair then { e with unsent := false } else e) = s := by
      simp [State.modifyEntry, he]
    rw [hnone]
    by_cases hu : u = tag
    · simp [hu, he]
    · simp [hu]
  | some e =>
    have htag : e.tag = tag := RecordTable.find_tag he
    rw [s.modifyEntry_find tag _ e he (by split_ifs <;> exact htag)]
    by_cases hu : u = tag
    · simp [hu, he]
    · simp [hu]

theorem State.clearUnsent_summary (s : State) (tag : Tag) (captured : Option OrderPair) :
    (s.clearUnsent tag captured).table.summary = s.table.summary :=
  s.modifyEntry_summary tag _ fun e => by split_ifs <;> exact ⟨rfl, rfl⟩

/-! ### The rise at the REJECT slot (R43, R85) -/

theorem RxBuffer.take_bits (b : RxBuffer) (bit : Bool) : (b.take bit).bits = b.bits ++ [bit] := rfl

theorem RxBuffer.take_bodyLen {b : RxBuffer} (h : b.count + 1 ≠ 42) (bit : Bool) : (b.take bit).bodyLen = b.bodyLen := by
  have hlen : (b.bits ++ [bit]).length ≠ 42 := by simpa [RxBuffer.count] using h
  simp only [RxBuffer.take, hlen, if_false]

/-- R72: in its vote slots a transmitter places a 1, so that it takes the level the other stations leave. -/
theorem State.placedBit_voteSlot {s : State} {f : Snapshot} (hrole : s.fe.role = .transmitter) (hf : s.fe.snapshot = some f)
    (hlow : 58 + f.body.length ≤ s.fe.buf.count) (hhigh : s.fe.buf.count ≤ 60 + f.body.length) : s.placedBit = some true := by
  have h1 : s.fe.buf.count + 1 ≤ 62 + f.body.length := by omega
  have h2 : ¬s.fe.buf.count + 1 ≤ 58 + f.body.length := by omega
  have h3 : s.fe.buf.count + 1 ≤ 61 + f.body.length := by omega
  simp only [State.placedBit, hrole, hf, Snapshot.bitAt, h1, h2, h3, if_true, if_false, Option.bind_some, decide_true]

/-- R43, R85: the rise at which a transmitter in VOTING takes the REJECT slot fixes the outcome. -/
theorem State.rise_rejectSlot {s : State} {f : Snapshot} {level : Bool} {len : Nat} (hbus : s.onBus = true)
    (hopen : s.line.frameOpen = true) (hhold : s.line.hold ≠ .decision) (htx : s.fe.tx = .voting)
    (hfixed : s.fe.outcomeFixed = false) (hrole : s.fe.role = .transmitter) (hrx : s.fe.rx = .vote)
    (hf : s.fe.snapshot = some f) (hlen : s.fe.buf.bodyLen = some len) (hbody : f.body.length = len)
    (hcount : s.fe.buf.bits.length = 60 + len) :
    ∃ l rx, s.rise level =
      ((s.setLine l).setFe { s.fe with buf := s.fe.buf.take level, rx := rx }).fixOutcome.clockRise := by
  have hn : s.fe.buf.count = 60 + len := hcount
  have hplaced : s.placedBit = some true := s.placedBit_voteSlot hrole hf (by omega) (by omega)
  have hline : s.lineAtRise = s.line.place true := by simp [State.lineAtRise, State.nextLevel, hrole, hplaced]
  have hbda : (s.lineAtRise.rise level).bda = level := by simp [hline, LineIf.rise, LineIf.bda]
  have htaken : s.fe.takeBit level = { s.fe with
      buf := s.fe.buf.take level, rx := rxAfter (s.fe.buf.count + 1) (s.fe.buf.take level).bodyLen } := by
    simp [FrameEngine.takeBit, hrx]
  refine ⟨s.lineAtRise.rise level, rxAfter (s.fe.buf.count + 1) (s.fe.buf.take level).bodyLen, ?_⟩
  have hrise : s.rise level = s.riseInFrame level := by
    simp [State.rise, State.tracks_of_onBus hbus, hhold, hopen]
  rw [hrise]
  simp only [State.riseInFrame, hbda, htaken]
  refine congrArg State.clockRise ?_
  have hcount' : (s.fe.buf.take level).count = 61 + len := by
    simp only [RxBuffer.count, RxBuffer.take_bits, List.length_append, List.length_singleton, hcount]
    omega
  have hlen' : (s.fe.buf.take level).bodyLen = some len := by rw [RxBuffer.take_bodyLen (by omega), hlen]
  simp [State.advanceTx, htx, hfixed, hcount', hlen']

/-- Tables 44 and 45: what the slots make of the head PUBLISH item. -/
inductive SlotsApply (s : State) (tag : Tag) (again : Bool) (n : Nat) (rest : List SendItem) (captured : Option OrderPair) :
    State → Prop where
  | attempt (hretry : s.fe.buf.slot 2 = false) (hn : n + 1 < maxAttempts) :
    SlotsApply s tag again n rest captured (s.setSendQ (⟨.publish tag again, false, n + 1⟩ :: rest))
  | undelivered (hretry : s.fe.buf.slot 2 = false) (hn : ¬n + 1 < maxAttempts) :
    SlotsApply s tag again n rest captured
      ((s.setSendQ (removedQueue tag again rest)).post ⟨.undelivered, some tag, none, captured, some .publish⟩)
  | rejected (hretry : s.fe.buf.slot 2 = true) (hreject : s.fe.buf.slot 3 = false) :
    SlotsApply s tag again n rest captured
      ((s.setSendQ (removedQueue tag again rest)).post ⟨.rejected, some tag, none, captured, none⟩)
  | sent (hretry : s.fe.buf.slot 2 = true) (hreject : s.fe.buf.slot 3 = true) :
    SlotsApply s tag again n rest captured ((s.setSendQ (removedQueue tag again rest)).clearUnsent tag captured)

/-- R85: the outcome fixed is the one that the slots make, applied. -/
theorem State.fixOutcome_publish {s : State} {tag : Tag} {again : Bool} {n : Nat} {rest : List SendItem} {f : Snapshot}
    (hbus : s.onBus = true) (hq : s.sendQ = ⟨.publish tag again, true, n⟩ :: rest) (hf : s.fe.snapshot = some f) :
    ∃ v, SlotsApply s tag again n rest f.captured v ∧ s.fixOutcome = v.setFe { v.fe with outcomeFixed := true } := by
  cases hretry : s.fe.buf.slot 2 with
  | false =>
    refine ⟨s.countAttempt, ?_, by simp only [State.fixOutcome, slotOutcome, hretry]; rfl⟩
    by_cases hn : n + 1 < maxAttempts
    · exact s.countAttempt_again hq hn ▸ .attempt hretry hn
    · exact s.countAttempt_last hbus hq hf hn ▸ .undelivered hretry hn
  | true =>
    cases hreject : s.fe.buf.slot 3 with
    | false =>
      refine ⟨s.complete .rejected, ?_, by simp only [State.fixOutcome, slotOutcome, hretry, hreject]; rfl⟩
      exact s.complete_rejected hbus hq hf ▸ .rejected hretry hreject
    | true =>
      refine ⟨s.complete (if s.fe.buf.slot 1 then .unheard else .delivered), ?_, ?_⟩
      · rw [s.complete_sent hbus hq hf (by split_ifs <;> simp)]
        exact .sent hretry hreject
      · simp only [State.fixOutcome, slotOutcome, hretry, hreject]
        cases s.fe.buf.slot 1 <;> rfl

theorem SlotsApply.fe {s v : State} {tag : Tag} {again : Bool} {n : Nat} {rest : List SendItem} {captured : Option OrderPair}
    (h : SlotsApply s tag again n rest captured v) : v.fe = s.fe := by
  cases h <;> simp [State.clearUnsent]

/-- Settles O38: the command is the rise at the REJECT slot, and Table 44 reads the three slots. -/
theorem voteOutcomeIsFixedAndApplied : Obligations.VoteOutcomeIsFixedAndApplied := by
  intro s f level tag again n rest len hbus hopen hhold htx hfixed hrole hrx hf hlen hbody hcount hq retry removed
  obtain ⟨l, rx, hrise⟩ := s.rise_rejectSlot (level := level) hbus hopen hhold htx hfixed hrole hrx hf hlen hbody hcount
  have hexec : exec (.voteOutcome level) s = .next (s.rise level) := by
    refine congrArg Host.Outcome.next (if_pos ?_)
    simp [htx, hfixed, hopen, hlen, RxBuffer.count, hcount]
  have hlen' : (s.fe.buf.take level).bodyLen = some len := by
    rw [RxBuffer.take_bodyLen (by simp only [RxBuffer.count, hcount]; omega), hlen]
  have hslot (k : Nat) : (s.fe.buf.take level).slot k = (s.fe.buf.bits ++ [level]).getD (57 + len + k) true := by
    rw [RxBuffer.slot, hlen', RxBuffer.take_bits, Option.getD_some]
  have hretry : (s.fe.buf.take level).slot 2 = retry := by
    rw [hslot, List.getD_append _ _ _ _ (by omega), Nat.add_right_comm]
  have hreject : (s.fe.buf.take level).slot 3 = level := by
    rw [hslot, List.getD_append_right _ _ _ _ (by omega), show 57 + len + 3 - s.fe.buf.bits.length = 0 by omega]
    rfl
  obtain ⟨v, hv, hfix⟩ := State.fixOutcome_publish
    (s := (s.setLine l).setFe { s.fe with buf := s.fe.buf.take level, rx := rx }) hbus hq hf
  have hfe := hv.fe
  rw [hfix] at hrise
  refine ⟨_, hexec, ?_, ?_, ?_⟩
  · rw [hrise]
    simpa [hfe] using htx
  · rw [hrise]
    simp
  have hmax : maxAttempts = 4 := rfl
  rw [hrise]
  cases hv with
  | attempt hr hn =>
    have hr' : retry = false := hretry.symm.trans hr
    refine ⟨fun _ _ => ⟨by simp, by simp [State.keepsAllBut, Block.all, Block.agrees]⟩, fun _ h => by omega, ?_, ?_⟩
    all_goals exact fun h => absurd h (by simp [hr'])
  | undelivered hr hn =>
    have hr' : retry = false := hretry.symm.trans hr
    refine ⟨fun _ h => by omega, fun _ _ => ⟨by simp [removed, removedQueue], by simp [HostPort.setNotices],
      by simp [State.keepsAllBut, Block.all, Block.agrees]⟩, ?_, ?_⟩
    all_goals exact fun h => absurd h (by simp [hr'])
  | rejected hr hl =>
    have hr' : retry = true := hretry.symm.trans hr
    have hl' : level = false := hreject.symm.trans hl
    refine ⟨fun h => absurd h (by simp [hr']), fun h => absurd h (by simp [hr']), fun _ _ => ⟨by simp [removed, removedQueue],
      by simp [HostPort.setNotices], by simp [State.keepsAllBut, Block.all, Block.agrees]⟩, fun _ h => absurd h (by simp [hl'])⟩
  | sent hr hl =>
    have hr' : retry = true := hretry.symm.trans hr
    have hl' : level = true := hreject.symm.trans hl
    refine ⟨fun h => absurd h (by simp [hr']), fun h => absurd h (by simp [hr']), fun _ h => absurd h (by simp [hl']),
      fun _ _ => ⟨by simp [removed, removedQueue, State.clearUnsent], fun u => ?_, ?_, ?_⟩⟩
    · simp only [State.clockRise_frame]
      exact State.clearUnsent_find _ tag f.captured u
    · simp only [State.clockRise_frame]
      exact State.clearUnsent_summary _ tag f.captured
    · simp [State.keepsAllBut, Block.all, Block.agrees, State.clearUnsent]

end Sys2Proof.Machine
end

section
/-! SUPPORT, SETTLES O42. An adopted PUBLISH frame, block by block. -/

namespace Sys2Proof.Machine

/-! ### The decision point -/

/-- R58: a PUBLISH content is of a PUBLISH header. -/
theorem RxBuffer.kind_of_publish {b : RxBuffer} {f : PublishContent} (h : b.content = some (.publish f)) :
    b.kind? = some .publish := by
  unfold RxBuffer.content at h
  split at h
  · rename_i hd d hh _
    have hk : hd.kind = .publish := by
      unfold frameContent at h
      split at h <;> simp_all
    simp [RxBuffer.kind?, hh, hk]
  · cases h

/-- R23: at the decision point of a PUBLISH frame, with no late loss, the frame is decided. -/
theorem exec_publishFrame {s : State} {f : PublishContent} (hbus : s.onBus = true) (hrole : s.fe.role = .receiver)
    (hdeciding : s.fe.deciding = true) (htx : s.fe.tx ≠ .lostLate) (hf : s.fe.buf.content = some (.publish f)) :
    exec .publishFrame s = .next (s.decidePublish f) := by
  have hat : s.atDecision .publish = true := by
    simp [State.atDecision, hbus, hrole, hdeciding, RxBuffer.kind_of_publish hf]
  have hloss : s.fe.lossConfirmed = false := by simp [FrameEngine.lossConfirmed, htx]
  refine congrArg Host.Outcome.next ?_
  simp [hat, hf, hloss]

/-! ### What follows an adoption (R35, R36, R131) -/

/-- R132: a station whose settle timer runs is not ready. -/
theorem State.testReady_of_settling {s : State} (h : s.control.link = .joining → s.sync.settle ≠ .elapsed) :
    s.testReady = s := by
  have hready : s.ready = false := by
    by_cases hl : s.control.link = .joining
    · simp [State.ready, h hl]
    · simp [State.ready, hl]
  simp [State.testReady, hready]

/-- R35, R129, R131: the Sync Unit after an adoption report. -/
def SyncUnit.adopted (y : SyncUnit) (joining : Bool) (tag : Tag) (held : OrderPair) : SyncUnit :=
  { y with
    wanted := y.wanted.filter fun w => !(w.tag == tag && !(w.pair.later held))
    pullList := if y.wanted.any (fun w => w.tag == tag && !(w.pair.later held)) then
      y.pullList.filter (fun u => u != tag) else y.pullList
    settle := if joining then .running 0 else y.settle }

theorem State.adoptionReport_eq (s : State) (tag : Tag) (held : OrderPair) :
    s.adoptionReport tag held = s.setSync (s.sync.adopted (s.control.link = .joining) tag held) := by
  simp only [State.adoptionReport]
  rw [State.testReady_of_settling]
  · simp only [SyncUnit.adopted, decide_eq_true_eq]
  · intro hl
    have hl' : s.control.link = .joining := hl
    simp [hl']

/-- R36: OVERTAKEN and then CHANGED, as the entry replaced was pending and watched. -/
def versionNotices (q : List Notice) (held : Option Entry) (f : PublishContent) : List Notice :=
  let overtaken := if held.any (·.unsent) then postInto q (.record .overtaken f.tag f.pair none) else q
  if held.any (·.watch) then postInto overtaken (.record .changed f.tag f.pair none) else overtaken

/-- The entry an adoption makes (R28, R31). -/
def adoptedEntry (held : Option Entry) (f : PublishContent) : Entry :=
  match held with
  | some e => e.adopted f
  | none => f.newEntry

/-- R28, R31, R35, R36, R37: from `s` to `t` the frame is adopted, block by block. -/
structure Adopted (s : State) (held : Option Entry) (f : PublishContent) (t : State) : Prop where
  table : t.table = s.table.put (s.stored (adoptedEntry held f))
  store : t.store = (s.changeEntry (adoptedEntry held f)).store
  notices : t.port.notices = if (s.stored (adoptedEntry held f)).storeState = .unstored then
    postInto (versionNotices s.port.notices held f) (.commitFailed (some f.tag) .storeFull)
    else versionNotices s.port.notices held f
  vote : t.fe.vote = some .accept
  sendQ : t.sendQ = s.sendQ.filter fun x => !(x.payload.sameItem (.publish f.tag false) && !x.inFlight)
  sync : t.sync = s.sync.adopted (s.control.link = .joining) f.tag f.pair
  others : s.keepsAllBut t [.line, .fe, .table, .store, .sync, .port, .sendQ] = true

/-- A post made or not changes the port alone. -/
theorem State.postOrNot_eq (s : State) (b : Bool) (n : Notice) : ∃ p,
    (if b then s.post n else s) = s.setPort p ∧ p.notices = if b then postInto s.port.notices n else s.port.notices := by
  cases b
  · exact ⟨s.port, rfl, rfl⟩
  · exact ⟨_, rfl, rfl⟩

/-- R28, R31, R35, R36: an adoption changes the entry, the Sync Unit and the Notice Queue. -/
theorem State.adopt_eq (s : State) (held : Option Entry) (f : PublishContent) : ∃ p,
    s.adopt held f = (((s.changeEntry (adoptedEntry held f)).setSync
      (s.sync.adopted (s.control.link = .joining) f.tag f.pair)).setPort p).noteUnstored f.tag ∧
      p.notices = versionNotices s.port.notices held f := by
  have hreport := (s.changeEntry (adoptedEntry held f)).adoptionReport_eq f.tag f.pair
  have hdef : s.adopt held f = State.noteUnstored (
      if held.any (·.watch) then
        (if held.any (·.unsent) then
          ((s.changeEntry (adoptedEntry held f)).adoptionReport f.tag f.pair).post (.record .overtaken f.tag f.pair none)
        else (s.changeEntry (adoptedEntry held f)).adoptionReport f.tag f.pair).post (.record .changed f.tag f.pair none)
      else if held.any (·.unsent) then
        ((s.changeEntry (adoptedEntry held f)).adoptionReport f.tag f.pair).post (.record .overtaken f.tag f.pair none)
      else (s.changeEntry (adoptedEntry held f)).adoptionReport f.tag f.pair) f.tag := rfl
  obtain ⟨p, hp, hpn⟩ := ((s.changeEntry (adoptedEntry held f)).adoptionReport f.tag f.pair).postOrNot_eq
    (held.any (·.unsent)) (.record .overtaken f.tag f.pair none)
  obtain ⟨q, hq, hqn⟩ := (((s.changeEntry (adoptedEntry held f)).adoptionReport f.tag f.pair).setPort p).postOrNot_eq
    (held.any (·.watch)) (.record .changed f.tag f.pair none)
  refine ⟨q, ?_, ?_⟩
  · rw [hdef, hp, hq, hreport]
    simp
  · simpa [versionNotices, hpn] using hqn

theorem State.adopt_adopted (s : State) (held : Option Entry) (f : PublishContent) (htag : (adoptedEntry held f).tag = f.tag) :
    Adopted s held f (((s.adopt held f).suppress f.tag).castVote .accept) := by
  obtain ⟨p, hadopt, hp⟩ := s.adopt_eq held f
  rw [hadopt]
  exact {
    table := by simp [State.changeEntry_table, State.stored]
    store := by simp
    notices := by
      have hfind : (s.changeEntry (adoptedEntry held f)).table.find f.tag = some (s.stored (adoptedEntry held f)) := by
        refine (RecordTable.find_put s.table (s.stored (adoptedEntry held f)) f.tag).trans (if_pos ?_)
        exact htag.symm
      simp [State.noteUnstored_notices, hfind, hp]
    vote := by simp [State.castVote]
    sendQ := by simp [State.suppress]
    sync := by simp
    others := by simp [State.keepsAllBut, Block.all, Block.agrees] }

/-- Table 11: of an absent tag, with room in the table, the frame creates the entry. -/
theorem RecordTable.publishCase_eq_created {t : RecordTable} {f : PublishContent} (hm : f.malformed = false)
    (hn : t.find f.tag = none) (hroom : t.entries.length < maxEntries) : t.publishCase true f = .created := by
  simp [RecordTable.publishCase, hm, hn, hroom]

/-- Table 11: of a held record of the same attributes, with a later pair, the frame replaces the version. -/
theorem RecordTable.publishCase_eq_later {t : RecordTable} {f : PublishContent} {e : Entry} (hm : f.malformed = false)
    (he : t.find f.tag = some e) (hcls : e.cls = f.cls) (hpersistent : e.persistent = f.persistent)
    (howner : e.cls = .owned → e.owner = some f.pair.origin) (hlater : f.pair.later e.pair = true) :
    t.publishCase true f = .later e := by
  have ho : (e.cls == .owned && e.owner != some f.pair.origin) = false := by
    cases hc : e.cls with
    | common => rfl
    | owned => simp [howner hc]
  rw [hcls] at ho
  simp [RecordTable.publishCase, hm, he, hcls, hpersistent, ho, hlater]

/-- The frame is adopted, creating an entry or replacing a held one's version. -/
theorem State.decidePublish_adopted {s : State} {f : PublishContent} (hgood : s.fe.buf.good = some true) {held : Option Entry}
    (hcase : s.table.publishCase true f = match held with | some e => .later e | none => .created)
    (htag : (adoptedEntry held f).tag = f.tag) : Adopted s held f (s.decidePublish f) := by
  have hd : s.decidePublish f = ((s.adopt held f).suppress f.tag).castVote .accept := by
    cases held <;> simp only [State.decidePublish, hgood, beq_self_eq_true, hcase] <;> rfl
  rw [hd]
  exact s.adopt_adopted held f htag

/-- Settles O42: cases 4 and 7 of Table 11 are one adoption, of a created or a held entry. -/
theorem adoptionTakesTheFrame : Obligations.AdoptionTakesTheFrame := by
  intro s f hbus hrole hdeciding htx hf hgood hm st failed
  have hcreated (hn : s.table.find f.tag = none) (hroom : s.table.entries.length < 96) :
      Adopted s none f (s.decidePublish f) :=
    State.decidePublish_adopted hgood (RecordTable.publishCase_eq_created hm hn hroom) rfl
  have hlater (e : Entry) (he : s.table.find f.tag = some e) (hcls : e.cls = f.cls) (hp : e.persistent = f.persistent)
      (howner : e.cls = .owned → e.owner = some f.pair.origin) (hl : f.pair.later e.pair = true) :
      Adopted s (some e) f (s.decidePublish f) :=
    State.decidePublish_adopted hgood (RecordTable.publishCase_eq_later hm he hcls hp howner hl)
      (RecordTable.find_tag he : e.tag = f.tag)
  refine ⟨s.decidePublish f, exec_publishFrame hbus hrole hdeciding htx hf, fun hn hroom => ?_,
    fun e he hcls hp howner hl => ?_, fun hcase => ?_⟩
  · have ha := hcreated hn hroom
    refine ⟨fun u => ?_, ?_, ?_⟩
    · rw [ha.table, RecordTable.find_put]
      rfl
    · rw [ha.table, RecordTable.put_summary]
      simp [State.stored, adoptedEntry, PublishContent.newEntry, RecordTable.heldTerm, hn, Entry.term]
    · exact ha.notices
  · have ha := hlater e he hcls hp howner hl
    have htag : e.tag = f.tag := RecordTable.find_tag he
    have hstored : s.stored (adoptedEntry (some e) f) =
        { e with pair := f.pair, value := f.value, unsent := false, storeState := st } := by
      simp only [State.stored, adoptedEntry, Entry.adopted, htag, hp]
      rfl
    refine ⟨fun u => ?_, ?_, ?_⟩
    · rw [ha.table, RecordTable.find_put, hstored, htag]
    · rw [ha.table, RecordTable.put_summary, hstored]
      simp [RecordTable.heldTerm, htag, he, Entry.term]
    · rw [ha.notices, hstored]
      rfl
  · obtain ⟨held, ha, htag, hst⟩ : ∃ held, Adopted s held f (s.decidePublish f) ∧ (adoptedEntry held f).tag = f.tag ∧
        (s.stored (adoptedEntry held f)).storeState = st := by
      rcases hcase with ⟨hn, hroom⟩ | ⟨e, he, hcls, hp, howner, hl⟩
      · exact ⟨none, hcreated hn hroom, rfl, rfl⟩
      · have htag : e.tag = f.tag := RecordTable.find_tag he
        refine ⟨some e, hlater e he hcls hp howner hl, htag, ?_⟩
        simp only [State.stored, adoptedEntry, Entry.adopted, htag, hp]
        rfl
    have hstore := ha.store
    rw [State.changeEntry_store, htag] at hstore
    have hqueue : storeStateAfter (adoptedEntry held f).persistent s.table.placeFree
        ((s.table.find f.tag).map (·.storeState)) = st := by
      rw [← hst, ← htag]
      rfl
    rw [hqueue] at hstore
    refine ⟨ha.vote, ?_, ha.sendQ, ?_, fun pair target image changed hop => ?_, fun hop => ?_, ?_, ha.others⟩
    · rw [ha.sync]
      rfl
    · rw [ha.sync]
      simp only [SyncUnit.adopted, decide_eq_true_eq]
    · rw [hstore]
      exact WriteEngine.markChanged_of_commit hop
    · rw [hstore]
      exact WriteEngine.markChanged_of_other hop
    · rw [hstore]

end Sys2Proof.Machine
end

section
/-! SUPPORT, SETTLES O56. What a start reads from the array. -/

namespace Sys2Proof.Machine

/-! ### Slots as read (R137, R152) -/

theorem recordTag_iff (tag : Tag) : recordTag tag = true ↔ 1 ≤ tag.toNat ∧ tag.toNat ≤ 0xFFE := by
  have hlt := tag.isLt
  simp only [recordTag, Bool.and_eq_true, bne_iff_ne, ne_eq, ← BitVec.toNat_inj, BitVec.toNat_ofNat]
  omega

/-- R137: the tests of a VALID record slot, as numbers. -/
theorem SlotImage.valid_iff (i : SlotImage) : i.valid = true ↔ i.check = i.code ∧ 1 ≤ i.tag.toNat ∧ i.tag.toNat ≤ 0xFFE ∧
    1 ≤ i.pair.version.toNat ∧ i.length.toNat ≤ 32 := by
  have hversion : i.pair.version ≠ 0#16 ↔ 1 ≤ i.pair.version.toNat := by
    rw [ne_eq, ← BitVec.toNat_inj, BitVec.toNat_ofNat]
    omega
  simp only [SlotImage.valid, Bool.and_eq_true, beq_iff_eq, recordTag_iff, bne_iff_ne, hversion, decide_eq_true_eq, and_assoc]
  rfl

theorem SlotContent.cond_valid_iff (c : SlotContent) : c.cond = .valid ↔ ∃ i, c.copy? = some i := by
  cases c with
  | copy i => cases hv : i.valid <;> simp [SlotContent.cond, SlotContent.copy?, hv]
  | _ => simp [SlotContent.cond, SlotContent.copy?]

theorem SlotContent.cond_erased_iff (c : SlotContent) : c.cond = .erased ↔ c = .erased := by
  cases c with
  | copy i => cases hv : i.valid <;> simp [SlotContent.cond, hv]
  | _ => simp [SlotContent.cond]

/-- R153: an INVALID record slot is neither ERASED nor VALID. -/
theorem SlotContent.cond_invalid_iff (c : SlotContent) : c.cond = .invalid ↔ c ≠ .erased ∧ ∀ i, c.copy? ≠ some i := by
  rw [ne_eq, ← c.cond_erased_iff, ← not_exists, ← c.cond_valid_iff]
  cases c.cond <;> simp

theorem StationSlot.value?_eq_some {c : StationSlot} {v : BitVec 8} :
    c.value? = some v ↔ ∃ check, c = .copy v check ∧ check = stationCode v := by
  cases c with
  | copy inc check =>
    simp only [StationSlot.value?, StationSlot.copy.injEq, beq_iff_eq]
    split_ifs with hc
    · simp only [Option.some.injEq]
      exact ⟨fun h => ⟨check, ⟨h, rfl⟩, h ▸ hc⟩, fun ⟨_, h, _⟩ => h.1⟩
    · simp only [false_iff, not_exists, not_and]
      rintro x ⟨rfl, rfl⟩
      exact hc
  | _ => simp [StationSlot.value?]

theorem StationSlot.cond_invalid_iff (c : StationSlot) : c.cond = .invalid ↔ c ≠ .erased ∧ ∀ v, c.value? ≠ some v := by
  cases c with
  | copy inc check => by_cases hc : check = stationCode inc <;> simp [StationSlot.cond, StationSlot.value?, hc]
  | _ => simp [StationSlot.cond, StationSlot.value?]

/-- R139: the newest copy of a pair, slot A's on equal pairs. -/
theorem PairSlots.newest_iff (p : PairSlots) (i : SlotImage) (slot : SlotName) :
    ((slot = .a ∧ p.a.copy? = some i ∧ ∀ j, p.b.copy? = some j → j.pair.later i.pair = false) ∨
      (slot = .b ∧ p.b.copy? = some i ∧ ∀ j, p.a.copy? = some j → i.pair.later j.pair = true)) ↔
      p.newest = some slot ∧ p.selected = some i := by
  unfold PairSlots.selected PairSlots.newest
  cases ha : p.a.copy? with
  | none => cases hb : p.b.copy? <;> cases slot <;> simp
  | some a =>
    cases hb : p.b.copy? with
    | none => cases slot <;> simp
    | some b =>
      cases slot <;> by_cases hl : b.pair.later a.pair = true <;> grind

theorem PairSlots.selected_copy {p : PairSlots} {i : SlotImage} (h : p.selected = some i) :
    p.a.copy? = some i ∨ p.b.copy? = some i := by
  unfold PairSlots.selected at h
  split at h
  · exact .inl h
  · exact .inr h
  · cases h

/-- R139: a pair without a VALID slot has no newest one and gives no copy. -/
theorem PairSlots.selected_none {p : PairSlots} (ha : p.a.copy? = none) (hb : p.b.copy? = none) :
    p.newest = none ∧ p.selected = none := by
  simp [PairSlots.selected, PairSlots.newest, ha, hb]

/-- R139: the copy a pair gives is that of its newest slot. -/
theorem PairSlots.exists_newest {p : PairSlots} {i : SlotImage} (h : p.selected = some i) : ∃ slot, p.newest = some slot := by
  unfold PairSlots.selected at h
  cases hn : p.newest with
  | none => simp [hn] at h
  | some slot => exact ⟨slot, rfl⟩

/-! ### The table loaded (R151, R21) -/

theorem foldl_loadPair_find_other {pairs : List PairSlots} {tag : Tag}
    (h : ∀ q ∈ pairs, ∀ j, q.selected = some j → j.tag ≠ tag) (t : RecordTable) :
    (pairs.foldl loadPair t).find tag = t.find tag := by
  induction pairs generalizing t with
  | nil => rfl
  | cons q rest ih =>
    have hq : (loadPair t q).find tag = t.find tag := by
      unfold loadPair
      split
      · rename_i j hj
        have hne : tag ≠ j.entry.tag := fun hc => h q (by simp) j hj hc.symm
        rw [RecordTable.find_put, if_neg hne]
      · rfl
    rw [List.foldl_cons, ih (fun x hx => h x (List.mem_cons_of_mem _ hx)), hq]

/-- R151: the copy of one pair, where no later pair holds one of its tag. -/
theorem loadTable_find {pairs : List PairSlots} {n : Nat} {p : PairSlots} {i : SlotImage} (hn : pairs[n]? = some p)
    (hi : p.selected = some i)
    (hlater : ∀ (k : Nat) (q : PairSlots) (j : SlotImage), n < k → pairs[k]? = some q → q.selected = some j → j.tag ≠ i.tag) :
    (loadTable pairs).find i.tag = some i.entry := by
  obtain ⟨hlt, hget⟩ := List.getElem?_eq_some_iff.1 hn
  have hother : ∀ q ∈ pairs.drop (n + 1), ∀ j, q.selected = some j → j.tag ≠ i.tag := by
    intro q hq j hj
    obtain ⟨m, hm⟩ := List.mem_iff_getElem?.1 hq
    rw [List.getElem?_drop] at hm
    exact hlater (n + 1 + m) q j (by omega) hm hj
  rw [loadTable_eq_foldl, ← List.take_append_drop n pairs, List.drop_eq_getElem_cons hlt, hget, List.foldl_append,
    List.foldl_cons, foldl_loadPair_find_other hother]
  have hload : ∀ t, loadPair t p = t.put i.entry := fun t => by simp [loadPair, hi]
  rw [hload, RecordTable.find_put]
  exact if_pos rfl

/-- R21: every entry loaded is made from the copy that some pair gives. -/
theorem mem_loadTable {pairs : List PairSlots} {e : Entry} (he : e ∈ (loadTable pairs).entries) :
    ∃ p ∈ pairs, ∃ i, p.selected = some i ∧ e = i.entry := by
  suffices h : ∀ (l : List PairSlots) (t : RecordTable), e ∈ (l.foldl loadPair t).entries →
      e ∈ t.entries ∨ ∃ p ∈ l, ∃ i, p.selected = some i ∧ e = i.entry from
    (h pairs .initial he).resolve_left (by simp [RecordTable.initial])
  intro l
  induction l with
  | nil => exact fun t h => .inl h
  | cons q rest ih =>
    intro t h
    rcases ih _ h with h | ⟨p, hp, hi⟩
    · unfold loadPair at h
      split at h
      · rename_i i hi
        rcases mem_insertEntry h with rfl | h
        · exact .inr ⟨q, by simp, i, hi, rfl⟩
        · exact .inl h
      · exact .inl h
    · exact .inr ⟨p, List.mem_cons_of_mem _ hp, hi⟩

/-- R6: whatever the number of pairs, the summary loaded is the sum of the terms. -/
theorem loadTable_summary (pairs : List PairSlots) : (loadTable pairs).summary = totalTerms (loadTable pairs).entries := by
  suffices h : ∀ (l : List PairSlots) (t : RecordTable), Ascending t.entries ∧ t.summary = totalTerms t.entries →
      Ascending (l.foldl loadPair t).entries ∧ (l.foldl loadPair t).summary = totalTerms (l.foldl loadPair t).entries from
    (h pairs .initial ⟨List.Pairwise.nil, rfl⟩).2
  intro l
  induction l with
  | nil => exact fun t h => h
  | cons q rest ih =>
    refine fun t ⟨hasc, hsum⟩ => ih _ ?_
    unfold loadPair
    split
    · rename_i i _
      exact ⟨hasc.insertEntry _, RecordTable.put_totalTerms hasc hsum _⟩
    · exact ⟨hasc, hsum⟩

/-! ### The station copies (R152) -/

theorem RetainedArray.newer_both {m : RetainedArray} {a b : BitVec 8} (ha : m.stationA.value? = some a)
    (hb : m.stationB.value? = some b) : m.incarnationRead = (if b = a + 1#8 then b else a) ∧
      m.stationTarget = if b = a + 1#8 then .a else .b := by
  by_cases h : b = a + 1#8 <;> simp [RetainedArray.incarnationRead, RetainedArray.stationTarget, RetainedArray.newerStation, *]

theorem RetainedArray.newer_onlyA {m : RetainedArray} {a : BitVec 8} (ha : m.stationA.value? = some a)
    (hb : m.stationB.value? = none) : m.incarnationRead = a ∧ m.stationTarget = .b := by
  simp [RetainedArray.incarnationRead, RetainedArray.stationTarget, RetainedArray.newerStation, *]

theorem RetainedArray.newer_onlyB {m : RetainedArray} {b : BitVec 8} (ha : m.stationA.value? = none)
    (hb : m.stationB.value? = some b) : m.incarnationRead = b ∧ m.stationTarget = .a := by
  simp [RetainedArray.incarnationRead, RetainedArray.stationTarget, RetainedArray.newerStation, *]

theorem RetainedArray.newer_none {m : RetainedArray} (ha : m.stationA.value? = none) (hb : m.stationB.value? = none) :
    m.incarnationRead = 0#8 ∧ m.stationTarget = .a := by
  simp [RetainedArray.incarnationRead, RetainedArray.stationTarget, RetainedArray.newerStation, *]

/-- R153: what the load scan finds spoilt. -/
theorem RetainedArray.anyInvalid_iff (m : RetainedArray) : m.anyInvalid = true ↔
    (∃ p ∈ m.pairs, p.a.cond = .invalid ∨ p.b.cond = .invalid) ∨ m.stationA.cond = .invalid ∨ m.stationB.cond = .invalid := by
  simp [RetainedArray.anyInvalid, or_assoc]

/-- R158: once its wait has ended a start runs. -/
theorem exec_startSequence {s : State} (hl : s.control.link = .start) (hreset : s.resetPin = false)
    (hop : s.store.engine.op = none) (hpower : s.control.cause = .power → s.control.watch = .good) :
    exec .startSequence s = .next s.runStart := by
  have hwait : s.startWaitEnded = true := by
    by_cases hc : s.control.cause = .power
    · simp [State.startWaitEnded, hreset, hop, hpower hc]
    · simp [State.startWaitEnded, hreset, hop, hc]
  refine congrArg Host.Outcome.next (if_pos ?_)
  simp [hl, hwait]

/-- Settles O56: a start reads the pairs, the table and the station copies from the array. -/
theorem startLoadsTheNewestCopies : Obligations.StartLoadsTheNewestCopies := by
  intro s hl hreset hop hpower valid spoilt newest station torn starts
  have hvalid : ∀ c i, valid c i ↔ c.copy? = some i := fun c i => by
    rw [SlotContent.copy?_eq_some, SlotImage.valid_iff]
  have hspoilt : ∀ c, spoilt c ↔ c.cond = .invalid := fun c => by
    simp only [spoilt, hvalid, SlotContent.cond_invalid_iff, ne_eq]
  have hnewest : ∀ p i slot, newest p i slot ↔ p.newest = some slot ∧ p.selected = some i := fun p i slot => by
    simp only [newest, hvalid, PairSlots.newest_iff]
  have hstation : ∀ c v, station c v ↔ c.value? = some v := fun c v => StationSlot.value?_eq_some.symm
  have htorn : ∀ c, torn c ↔ c.cond = .invalid := fun c => by
    simp only [torn, hstation, StationSlot.cond_invalid_iff, ne_eq]
  have hnone : ∀ c : StationSlot, (∀ v, ¬station c v) → c.value? = none := fun c h =>
    Option.eq_none_iff_forall_ne_some.2 fun v hv => h v ((hstation c v).2 hv)
  have hstarts : ∀ read target, s.store.array.incarnationRead = read ∧ s.store.array.stationTarget = target →
      starts s.runStart read target := by
    rintro read target ⟨rfl, rfl⟩
    exact ⟨rfl, rfl, rfl⟩
  refine ⟨s.runStart, exec_startSequence hl hreset hop hpower, fun n p hn => ?_, fun e he => ?_, ?_, fun a b ha hb => ?_,
    fun a ha hb => ?_, fun b hb ha => ?_, fun ha hb => ?_, ?_⟩
  · refine ⟨p.mapEntry, ?_, p.a.cond_erased_iff, ?_, p.b.cond_erased_iff, ?_, fun i slot hi => ?_, fun ha hb => ?_⟩
    · have hmap : s.runStart.store.pairMap = s.store.array.pairs.map PairSlots.mapEntry := rfl
      rw [hmap, List.getElem?_map, hn]
      rfl
    · simp only [hvalid]
      exact p.a.cond_valid_iff
    · simp only [hvalid]
      exact p.b.cond_valid_iff
    · obtain ⟨hslot, hcopy⟩ := (hnewest p i slot).1 hi
      refine ⟨by simp [PairSlots.mapEntry, hcopy], hslot, fun hothers => ?_⟩
      refine loadTable_find hn hcopy fun k q j hk hq hj => hothers k q j (by omega) hq ?_
      simpa only [hvalid] using PairSlots.selected_copy hj
    · have hno : ∀ c, (∀ i, ¬valid c i) → c.copy? = none := fun c h =>
        Option.eq_none_iff_forall_ne_some.2 fun i hi => h i ((hvalid c i).2 hi)
      obtain ⟨hn', hs'⟩ := p.selected_none (hno _ ha) (hno _ hb)
      exact ⟨by simp [PairSlots.mapEntry, hs'], hn'⟩
  · obtain ⟨p, hp, i, hi, rfl⟩ := mem_loadTable (show e ∈ (loadTable s.store.array.pairs).entries from he)
    obtain ⟨slot, hslot⟩ := p.exists_newest hi
    exact ⟨p, hp, i, slot, (hnewest p i slot).2 ⟨hslot, hi⟩, rfl, rfl, rfl⟩
  · exact loadTable_summary s.store.array.pairs
  · obtain ⟨hread, htarget⟩ := RetainedArray.newer_both ((hstation _ _).1 ha) ((hstation _ _).1 hb)
    split_ifs with hc
    · exact hstarts b .a ⟨hread.trans (if_pos hc), htarget.trans (if_pos hc)⟩
    · exact hstarts a .b ⟨hread.trans (if_neg hc), htarget.trans (if_neg hc)⟩
  · exact hstarts a .b (RetainedArray.newer_onlyA ((hstation _ _).1 ha) (hnone _ hb))
  · exact hstarts b .a (RetainedArray.newer_onlyB (hnone _ ha) ((hstation _ _).1 hb))
  · exact hstarts 0#8 .a (RetainedArray.newer_none (hnone _ ha) (hnone _ hb))
  · simp only [hspoilt, htorn]
    exact s.store.array.anyInvalid_iff

end Sys2Proof.Machine
end

section
/-! SUPPORT, SETTLES O40, O41, O43. The cases of Table 11: the vote of each, and the refused and kept versions. -/

namespace Sys2Proof.Machine

/-! ### The case table (R24, Table 11) -/

/-- R26: what makes a PUBLISH content malformed, as numbers. -/
theorem PublishContent.malformed_iff (f : PublishContent) : f.malformed = true ↔
    f.tag = 0#12 ∨ f.tag = 0xFFF#12 ∨ f.pair.version = 0#16 ∨ 32 < f.length ∨ f.value.length ≠ f.length := by
  have htag : (!recordTag f.tag) = true ↔ f.tag = 0#12 ∨ f.tag = 0xFFF#12 := by
    simp [recordTag]
  simp only [PublishContent.malformed, Bool.or_eq_true, htag, beq_iff_eq, decide_eq_true_eq, bne_iff_ne, or_assoc]
  rfl

/-- Table 11, case 1. -/
theorem RecordTable.publishCase_badCheck (t : RecordTable) (f : PublishContent) : t.publishCase false f = .badCheck := rfl

/-- Table 11, case 2. -/
theorem RecordTable.publishCase_malformed (t : RecordTable) {f : PublishContent} (hm : f.malformed = true) :
    t.publishCase true f = .malformed := by
  simp [RecordTable.publishCase, hm]

/-- Table 11, cases 3 and 4: the tag is not held. -/
theorem RecordTable.publishCase_absent {t : RecordTable} {f : PublishContent} (hm : f.malformed = false)
    (hn : t.find f.tag = none) :
    t.publishCase true f = if 96 ≤ t.entries.length then .tableFull else .created := by
  simp only [RecordTable.publishCase, hm, hn, Bool.not_true, Bool.false_eq_true, if_false]
  rfl

/-- Table 11, cases 5 to 10: the tag is held. -/
theorem RecordTable.publishCase_held {t : RecordTable} {f : PublishContent} {e : Entry} (hm : f.malformed = false)
    (he : t.find f.tag = some e) :
    t.publishCase true f =
      if e.cls ≠ f.cls ∨ e.persistent ≠ f.persistent then .attributesDiffer
      else if e.cls = .owned ∧ e.owner ≠ some f.pair.origin then .ownerDiffers
      else if f.pair.later e.pair = true then .later e
      else if f.pair = e.pair then (if f.value = e.value then .sameValue else .otherValue)
      else .earlier := by
  simp [RecordTable.publishCase, hm, he]

/-- R3: no pair is later than itself. -/
theorem OrderPair.later_self (p : OrderPair) : p.later p = false := by
  simp [OrderPair.later]

/-- Table 11: of a held record of the same attributes and owner and no later pair, an equal pair's value decides. -/
theorem RecordTable.publishCase_kept {t : RecordTable} {f : PublishContent} {e : Entry} (hm : f.malformed = false)
    (he : t.find f.tag = some e) (hcls : e.cls = f.cls) (hpersistent : e.persistent = f.persistent)
    (howner : e.cls = .owned → e.owner = some f.pair.origin) (hlater : f.pair.later e.pair = false) :
    t.publishCase true f =
      if f.pair = e.pair then (if f.value = e.value then .sameValue else .otherValue) else .earlier := by
  have hattr : ¬(e.cls ≠ f.cls ∨ e.persistent ≠ f.persistent) := not_or.2 ⟨not_not.2 hcls, not_not.2 hpersistent⟩
  have hown : ¬(e.cls = .owned ∧ e.owner ≠ some f.pair.origin) := fun ⟨hc, ho⟩ => ho (howner hc)
  rw [RecordTable.publishCase_held hm he, if_neg hattr, if_neg hown, if_neg (by simp [hlater])]

/-- Table 11, column Vote, of a held record: a later pair and an earlier one are both accepted, so that past the attributes and
the owner only another value under the same pair is refused. -/
theorem RecordTable.publishCase_held_vote {t : RecordTable} {f : PublishContent} {e : Entry} (hm : f.malformed = false)
    (he : t.find f.tag = some e) :
    (t.publishCase true f).vote =
      if e.cls ≠ f.cls ∨ e.persistent ≠ f.persistent then .reject
      else if e.cls = .owned ∧ e.owner ≠ some f.pair.origin then .reject
      else if e.pair = f.pair ∧ e.value ≠ f.value then .reject
      else .accept := by
  rw [RecordTable.publishCase_held hm he]
  by_cases hattr : e.cls ≠ f.cls ∨ e.persistent ≠ f.persistent
  · simp only [if_pos hattr, PublishCase.vote]
  by_cases howner : e.cls = .owned ∧ e.owner ≠ some f.pair.origin
  · simp only [if_neg hattr, if_pos howner, PublishCase.vote]
  simp only [if_neg hattr, if_neg howner]
  by_cases hpair : f.pair = e.pair
  · by_cases hvalue : f.value = e.value
    · simp [hpair, e.pair.later_self, hvalue, PublishCase.vote]
    · simp [hpair, e.pair.later_self, hvalue, Ne.symm hvalue, PublishCase.vote]
  · have hvalue : ¬(e.pair = f.pair ∧ e.value ≠ f.value) := fun h => hpair h.1.symm
    simp only [if_neg hpair, if_neg hvalue]
    split_ifs <;> rfl

/-! ### The vote placed (R81) -/

/-- R43, R49, R81: the vote is placed and the hold released; the ACCEPT slot is driven for an accepted frame alone. -/
theorem State.castVote_places (s : State) (v : Vote) :
    (s.castVote v).fe.vote = some v ∧ (s.castVote v).fe.deciding = false ∧ (s.castVote v).line.hold = .none ∧
      (s.castVote v).line.driveBck = false ∧ (s.castVote v).line.driveBda = (v == .accept) :=
  ⟨rfl, rfl, rfl, rfl, Bool.not_not _⟩

/-- R24: the decision is the effect of the frame's case and its vote. -/
theorem State.decidePublish_of_case {s : State} {f : PublishContent} {c : PublishCase}
    (h : s.table.publishCase (s.fe.buf.good == some true) f = c) :
    s.decidePublish f = (s.publishEffect f c).castVote c.vote := by
  subst h
  rfl

/-- R24, of a frame with a good check code. -/
theorem State.decidePublish_of_good {s : State} {f : PublishContent} {c : PublishCase} (hgood : s.fe.buf.good = some true)
    (h : s.table.publishCase true f = c) : s.decidePublish f = (s.publishEffect f c).castVote c.vote :=
  State.decidePublish_of_case (by rw [hgood]; exact h)

/-- R25: a frame with a bad check code is answered RETRY, and nothing else is done. -/
theorem State.decidePublish_badCheck {s : State} (f : PublishContent) (hgood : s.fe.buf.good ≠ some true) :
    s.decidePublish f = s.castVote .retry :=
  State.decidePublish_of_case (c := .badCheck) (by rw [beq_eq_false_iff_ne.2 hgood]; rfl)

/-- R26: a malformed frame is answered REJECT, and nothing else is done. -/
theorem State.decidePublish_malformed {s : State} {f : PublishContent} (hgood : s.fe.buf.good = some true)
    (hm : f.malformed = true) : s.decidePublish f = s.castVote .reject :=
  State.decidePublish_of_good hgood (s.table.publishCase_malformed hm)

/-- Table 11: a case that is not accepted leaves the table. -/
theorem State.publishEffect_table_of_refused (s : State) (f : PublishContent) {c : PublishCase} (h : c.vote ≠ .accept) :
    (s.publishEffect f c).table = s.table := by
  cases c with
  | badCheck | malformed => rfl
  | tableFull | attributesDiffer | ownerDiffers | otherValue => simp [State.publishEffect]
  | created | later | sameValue | earlier => exact absurd rfl h

/-- Settles O40, by the cases of Table 11. -/
theorem publishVoteFollowsTheCaseTable : Obligations.PublishVoteFollowsTheCaseTable := by
  intro s f hbus hrole hdeciding htx hf v
  have hv : (s.table.publishCase (s.fe.buf.good == some true) f).vote = v := by
    by_cases hgood : s.fe.buf.good = some true
    swap
    · rw [beq_eq_false_iff_ne.2 hgood]
      exact (if_pos hgood).symm
    by_cases hm : f.malformed = true
    · have hm' := f.malformed_iff.1 hm
      simp only [v, hgood, hm', beq_self_eq_true, RecordTable.publishCase_malformed _ hm, PublishCase.vote, ne_eq,
        not_true_eq_false, if_true, if_false]
    have hm' := mt f.malformed_iff.2 hm
    rw [Bool.not_eq_true] at hm
    cases he : s.table.find f.tag with
    | none =>
      simp only [v, hgood, hm', he, beq_self_eq_true, RecordTable.publishCase_absent hm he, ne_eq, not_true_eq_false, if_false]
      split_ifs <;> rfl
    | some e =>
      simp only [v, hgood, hm', he, beq_self_eq_true, RecordTable.publishCase_held_vote hm he, ne_eq, not_true_eq_false,
        if_false]
  refine ⟨s.decidePublish f, exec_publishFrame hbus hrole hdeciding htx hf, ?_⟩
  rw [State.decidePublish_of_case rfl, hv]
  obtain ⟨hvote, hdecided, hhold, hbck, hbda⟩ := State.castVote_places (s.publishEffect f (s.table.publishCase _ f)) v
  refine ⟨hvote, hdecided, hhold, hbck, hbda, fun hne => ?_, by simp⟩
  rw [← hv] at hne
  simpa using s.publishEffect_table_of_refused f hne

/-! ### Refused frames (R25 to R27, R29, R30, R33) -/

/-- A vote alone changes the lines and the Frame Engine. -/
theorem State.castVote_keeps (s : State) (v : Vote) : s.keepsAllBut (s.castVote v) [.line, .fe] = true := by
  simp [State.keepsAllBut, Block.all, Block.agrees]

/-- A refused frame is answered REJECT with one notice, and nothing else is done. -/
theorem State.castVote_post_reject (s : State) (n : Notice) :
    ((s.post n).castVote .reject).fe.vote = some .reject ∧
      ((s.post n).castVote .reject).port.notices = postInto s.port.notices n ∧
      s.keepsAllBut ((s.post n).castVote .reject) [.line, .fe, .port] = true := by
  refine ⟨rfl, rfl, ?_⟩
  simp [State.keepsAllBut, Block.all, Block.agrees]

/-- Settles O41: a bad check code and a malformed frame are a vote alone, and the other refusals a vote and one notice. -/
theorem refusedPublishChangesNoEntry : Obligations.RefusedPublishChangesNoEntry := by
  refine ⟨fun s f hbus hrole hdeciding htx hf => ?_, fun s f hbus hrole hdeciding htx hf hgood hm => ?_⟩
  · have hexec := exec_publishFrame hbus hrole hdeciding htx hf
    refine ⟨fun hbad => ?_, fun hgood hform => ?_⟩
    · rw [State.decidePublish_badCheck f hbad] at hexec
      exact ⟨_, hexec, rfl, s.castVote_keeps .retry⟩
    · rw [State.decidePublish_malformed hgood (f.malformed_iff.2 hform)] at hexec
      exact ⟨_, hexec, rfl, s.castVote_keeps .reject⟩
  · have hdecide {c : PublishCase} (h : s.table.publishCase true f = c) := State.decidePublish_of_good hgood h
    refine ⟨s.decidePublish f, exec_publishFrame hbus hrole hdeciding htx hf, fun hn hfull => ?_, fun e he hattr => ?_,
      fun e he hcls hp howned howner => ?_, fun e he hcls hp howner hpair hvalue => ?_⟩
    · rw [hdecide ((RecordTable.publishCase_absent hm hn).trans (if_pos hfull))]
      exact s.castVote_post_reject _
    · rw [hdecide ((RecordTable.publishCase_held hm he).trans (if_pos hattr))]
      exact s.castVote_post_reject _
    · have hattr : ¬(e.cls ≠ f.cls ∨ e.persistent ≠ f.persistent) := not_or.2 ⟨not_not.2 hcls, not_not.2 hp⟩
      rw [hdecide ((RecordTable.publishCase_held hm he).trans ((if_neg hattr).trans (if_pos ⟨howned, howner⟩)))]
      exact s.castVote_post_reject _
    · have hlater : f.pair.later e.pair = false := by rw [hpair, OrderPair.later_self]
      rw [hdecide ((RecordTable.publishCase_kept hm he hcls hp howner hlater).trans
        ((if_pos hpair.symm).trans (if_neg (Ne.symm hvalue))))]
      exact s.castVote_post_reject _

/-! ### Accepted frames that are no adoption (R33, R34, R37) -/

/-- R93, R94: a PUBLISH claim in JOINING or ACTIVE adds an item unless one is queued for the tag or the queue is full. -/
theorem State.claimPublish_sendQ {s : State} (hbus : s.onBus = true) (tag : Tag) :
    (s.claimPublish tag).sendQ =
      if (findItem s.sendQ (.publish tag false)).isSome ∨ 16 ≤ s.sendQ.length then s.sendQ
      else s.sendQ ++ [⟨.publish tag false, false, 0⟩] := by
  have hplaced : s.appendAnswer (.publish tag false) = .placed ↔
      ¬((findItem s.sendQ (.publish tag false)).isSome ∨ 16 ≤ s.sendQ.length) := by
    have hmax : maxItems = 16 := rfl
    rw [State.appendAnswer_placed_iff, hmax, not_or, not_le, Option.not_isSome_iff_eq_none]
    exact and_iff_right hbus
  rcases s.append_cases (.publish tag false) with ⟨ha, happend⟩ | ⟨ha, happend⟩
  · rw [State.claimPublish, happend, if_neg (hplaced.1 ha)]
    rfl
  · rw [State.claimPublish, happend, if_pos (not_not.1 (mt hplaced.2 ha))]

/-- Settles O43: an equal pair is case 8 of Table 11, any other pair that is not later case 10. -/
theorem equalOrEarlierPublishKeepsTheEntry : Obligations.EqualOrEarlierPublishKeepsTheEntry := by
  intro s f e hbus hrole hdeciding htx hf hgood hm he hcls hp howner hlater hvalue
  have hkept := RecordTable.publishCase_kept hm he hcls hp howner hlater
  refine ⟨s.decidePublish f, exec_publishFrame hbus hrole hdeciding htx hf, ?_⟩
  by_cases hpair : f.pair = e.pair
  · rw [State.decidePublish_of_good hgood (hkept.trans ((if_pos hpair).trans (if_pos (hvalue hpair))))]
    refine ⟨rfl, ?_, fun _ => rfl, fun hne => absurd hpair hne⟩
    simp [State.publishEffect, State.keepsAllBut, Block.all, Block.agrees]
  · rw [State.decidePublish_of_good hgood (hkept.trans (if_neg hpair))]
    refine ⟨rfl, ?_, fun heq => absurd heq hpair, fun _ => ?_⟩
    · simp [State.publishEffect, State.keepsAllBut, Block.all, Block.agrees]
    · rw [← State.claimPublish_sendQ hbus f.tag]
      rfl

end Sys2Proof.Machine
end

section
/-! SUPPORT. Which parts of the Frame Engine the claims on the Send Queue and the end of an item leave as they were. -/

namespace Sys2Proof.Machine

/-! ### The receive machine, the role and the receive buffer -/

@[simp] theorem State.append_receive (s : State) (p : Payload) :
    (s.append p).fe.rx = s.fe.rx ∧ (s.append p).fe.role = s.fe.role ∧ (s.append p).fe.buf = s.fe.buf := by
  obtain ⟨-, h⟩ | ⟨-, h⟩ := s.append_cases p <;> simp [h]

@[simp] theorem State.claimPull_receive (s : State) :
    s.claimPull.fe.rx = s.fe.rx ∧ s.claimPull.fe.role = s.fe.role ∧ s.claimPull.fe.buf = s.fe.buf := by
  unfold State.claimPull
  split <;> simp

@[simp] theorem State.claimDigest_receive (s : State) :
    s.claimDigest.fe.rx = s.fe.rx ∧ s.claimDigest.fe.role = s.fe.role ∧ s.claimDigest.fe.buf = s.fe.buf := by
  unfold State.claimDigest
  (repeat' split) <;> simp

@[simp] theorem State.claimWritten_receive (s : State) (tag : Tag) :
    (s.claimWritten tag).fe.rx = s.fe.rx ∧ (s.claimWritten tag).fe.role = s.fe.role ∧
      (s.claimWritten tag).fe.buf = s.fe.buf := by
  unfold State.claimWritten
  split <;> simp

@[simp] theorem State.digestCompleted_receive (s : State) (o : Outcome) :
    (s.digestCompleted o).fe.rx = s.fe.rx ∧ (s.digestCompleted o).fe.role = s.fe.role ∧
      (s.digestCompleted o).fe.buf = s.fe.buf := by
  unfold State.digestCompleted
  (repeat' split) <;> simp

@[simp] theorem State.toldCompleted_receive (s : State) (kind : FrameKind) (o : Outcome) :
    (s.toldCompleted kind o).fe.rx = s.fe.rx ∧ (s.toldCompleted kind o).fe.role = s.fe.role ∧
      (s.toldCompleted kind o).fe.buf = s.fe.buf := by
  unfold State.toldCompleted
  split <;> simp

@[simp] theorem State.complete_receive (s : State) (o : Outcome) :
    (s.complete o).fe.rx = s.fe.rx ∧ (s.complete o).fe.role = s.fe.role ∧ (s.complete o).fe.buf = s.fe.buf := by
  unfold State.complete
  (repeat' split) <;> simp

@[simp] theorem State.countAttempt_receive (s : State) :
    s.countAttempt.fe.rx = s.fe.rx ∧ s.countAttempt.fe.role = s.fe.role ∧ s.countAttempt.fe.buf = s.fe.buf := by
  unfold State.countAttempt
  (repeat' split) <;> simp

@[simp] theorem State.rest_receive (s : State) :
    s.rest.fe.rx = s.fe.rx ∧ s.rest.fe.role = s.fe.role ∧ s.rest.fe.buf = s.fe.buf := by
  simp [State.rest]

@[simp] theorem State.lossNotConfirmed_receive (s : State) :
    s.lossNotConfirmed.fe.rx = s.fe.rx ∧ s.lossNotConfirmed.fe.role = s.fe.role ∧
      s.lossNotConfirmed.fe.buf = s.fe.buf := by
  simp [State.lossNotConfirmed]

@[simp] theorem State.fixOutcome_receive (s : State) :
    s.fixOutcome.fe.rx = s.fe.rx ∧ s.fixOutcome.fe.role = s.fe.role ∧ s.fixOutcome.fe.buf = s.fe.buf := by
  unfold State.fixOutcome
  dsimp only
  split <;> simp

@[simp] theorem State.becomeReceiver_receive (s : State) :
    s.becomeReceiver.fe.rx = s.fe.rx ∧ s.becomeReceiver.fe.role = .receiver ∧ s.becomeReceiver.fe.buf = s.fe.buf := by
  simp [State.becomeReceiver]

/-- Table 42: a rise moves the transmit machine, and at a loss the role. -/
@[simp] theorem State.advanceTx_receive (s : State) (placed : Option Bool) (bit : Bool) :
    (s.advanceTx placed bit).fe.rx = s.fe.rx ∧ (s.advanceTx placed bit).fe.buf = s.fe.buf := by
  simp only [State.advanceTx]
  split
  · split_ifs <;> simp
  · split_ifs <;> simp
  · split_ifs <;> simp
  · split_ifs <;> simp
  · simp
  · simp

/-- R73, R74: without a loss at this rise the station keeps its role and its lines. -/
theorem State.advanceTx_kept (s : State) {placed : Option Bool} {bit : Bool} (h : placed = some true → bit = true) :
    (s.advanceTx placed bit).fe.role = s.fe.role ∧ (s.advanceTx placed bit).line = s.line := by
  have hlost : (placed == some true && !bit) = false := by
    cases bit <;> simp_all
  simp only [State.advanceTx, hlost]
  split
  · split_ifs <;> simp_all
  · split_ifs <;> simp_all
  · split_ifs <;> simp
  · split_ifs <;> simp
  · simp
  · simp

@[simp] theorem State.leaveFrame_receive (s : State) : s.leaveFrame.fe.rx = .hunt ∧ s.leaveFrame.fe.role = .none := by
  simp [State.leaveFrame]

/-- Table 42: what the transmit machine does at an end mark, before the station leaves the frame. -/
def State.partAtEnd (s : State) : State :=
  match s.fe.tx with
  | .lostLate => s.endLateLoss
  | .voting => if s.fe.outcomeFixed then s.rest else s.endForeign
  | .contending => s.endForeign
  | .sending => s.endForeign
  | .idle => s
  | .waiting => s

theorem execEndMark_eq (s : State) : execEndMark s = .next (
    if !s.tracks then s.readLines s.line.bck true
    else if !s.line.bck then s.setLine ({ s.line with othersBda := true } : LineIf).read
    else if s.line.frameOpen && s.line.bdaRise.bda then
      (s.setLine (s.line.ended (s.fe.role == .transmitter))).partAtEnd.leaveFrame
    else s.setLine { s.line.bdaRise with bdaSeen := s.line.bdaRise.bda }) := rfl

@[simp] theorem State.partAtEnd_frame (s : State) :
    s.partAtEnd.control = s.control ∧ s.partAtEnd.line = s.line ∧ s.partAtEnd.store = s.store := by
  unfold State.partAtEnd
  (repeat' split) <;> simp

@[simp] theorem State.dropFrame_role (s : State) : s.dropFrame.fe.role = .none := by
  simp [State.dropFrame]

@[simp] theorem State.discardFrame_receive (s : State) :
    s.discardFrame.fe.rx = .discard ∧ s.discardFrame.fe.role = s.fe.role ∧ s.discardFrame.fe.buf = s.fe.buf := by
  simp [State.discardFrame]

end Sys2Proof.Machine
end

section
/-! SUPPORT, SETTLES O7. A station outside JOINING and ACTIVE drives neither line and has no role, and every command keeps
that. -/

namespace Sys2Proof.Machine

/-- R39: the station drives neither line, has nothing to place on BDA, and has no role in a frame. -/
structure State.Apart (s : State) : Prop where
  driveBck : s.line.driveBck = false
  driveBda : s.line.driveBda = false
  placing : s.line.placing = none
  role : s.fe.role = .none

/-- The invariant of the lines. -/
def ApartOffBus (s : State) : Prop :=
  s.onBus = false → s.Apart

theorem State.linesInv_iff (s : State) : s.linesInv = true ↔ ApartOffBus s := by
  unfold State.linesInv ApartOffBus
  cases s.onBus with
  | true => simp
  | false =>
    constructor
    · intro h _
      simp only [Bool.false_or, Bool.and_eq_true, Bool.not_eq_true', Option.isNone_iff_eq_none, beq_iff_eq] at h
      obtain ⟨⟨⟨hbck, hbda⟩, hplacing⟩, hrole⟩ := h
      exact ⟨hbck, hbda, hplacing, hrole⟩
    · intro h
      obtain ⟨hbck, hbda, hplacing, hrole⟩ := h rfl
      simp [hbck, hbda, hplacing, hrole]

namespace State.Apart

variable {s t : State}

theorem congr (h : s.Apart) (hline : t.line = s.line) (hrole : t.fe.role = s.fe.role) : t.Apart :=
  ⟨by rw [hline, h.driveBck], by rw [hline, h.driveBda], by rw [hline, h.placing], by rw [hrole, h.role]⟩

/-- Another Line Interface with the same drivers and level due. -/
theorem setLine (h : s.Apart) {l : LineIf} (hbck : l.driveBck = s.line.driveBck) (hbda : l.driveBda = s.line.driveBda)
    (hplacing : l.placing = s.line.placing) : (s.setLine l).Apart :=
  ⟨hbck.trans h.driveBck, hbda.trans h.driveBda, hplacing.trans h.placing, h.role⟩

/-- R55: the lines let go, and no role left. -/
theorem of_released {l : LineIf} (hline : t.line = l)
    (hreleased : l.driveBck = false ∧ l.driveBda = false ∧ l.placing = none) (hrole : t.fe.role = .none) : t.Apart := by
  subst hline
  obtain ⟨hbck, hbda, hplacing⟩ := hreleased
  exact ⟨hbck, hbda, hplacing, hrole⟩

/-- R41, R56, R69: the lines and the Frame Engine as a start has them. -/
theorem of_restart {l : LineIf} (hline : t.line = l.restart) (hfe : t.fe = .initial) : t.Apart :=
  of_released hline ⟨rfl, rfl, rfl⟩ (by rw [hfe]; rfl)

/-! ### Edges of the lines off the bus -/

theorem readLines (h : s.Apart) (bck bda : Bool) : (s.readLines bck bda).Apart :=
  h.setLine rfl rfl rfl

/-- R46: a station with no role in frames opens none of its own. -/
theorem openFrame (h : s.Apart) (hoff : s.onBus = false) : s.openFrame.Apart := by
  refine ⟨?_, ?_, ?_, ?_⟩
  · simpa [State.openFrame, LineIf.lowOn] using h.driveBck
  · simpa [State.openFrame, LineIf.lowOn] using h.driveBda
  · simpa [State.openFrame, LineIf.lowOn] using h.placing
  · simp [State.openFrame, h.driveBda, hoff]

theorem takeOwnOpening (h : s.Apart) (hoff : s.onBus = false) : s.takeOwnOpening.Apart := by
  unfold State.takeOwnOpening
  split_ifs
  · exact h.openFrame hoff
  · exact h

theorem fallInFrame (h : s.Apart) : s.fallInFrame.Apart := by
  have hdiscard : s.discardFrame.Apart := h.congr (by simp) (by simp)
  unfold State.fallInFrame
  dsimp only
  split
  · exact h
  · exact h
  · split_ifs with hbeyond htransmits hreceives
    · exact hdiscard
    · exact absurd htransmits (by simp [h.role])
    · exact absurd hreceives (by simp [h.role])
    · exact h

theorem bckFall (h : s.Apart) (hoff : s.onBus = false) : Meets (execBckFall s) State.Apart := by
  have hline (t : State) (ht : t.Apart) : (t.setLine { (t.line.lowOn .bck) with bckLow := 0 }).Apart :=
    ht.setLine rfl rfl rfl
  refine .next ?_
  dsimp only
  split_ifs
  · exact h.readLines _ _
  · exact h.setLine rfl rfl rfl
  · exact (hline _ (h.takeOwnOpening hoff)).fallInFrame
  · exact (hline _ (h.takeOwnOpening hoff)).setLine rfl rfl rfl
  · exact hline _ (h.takeOwnOpening hoff)

/-- R43: a station without a role places no level at a rise. -/
theorem lineAtRise (h : s.Apart) : s.lineAtRise = s.line := by
  simp [State.lineAtRise, State.nextLevel, LineIf.settle, h.role, h.placing]

theorem riseInFrame (h : s.Apart) (level : Bool) : (s.riseInFrame level).Apart := by
  have hplaced : s.placedBit = none := by simp [State.placedBit, h.role]
  have htaken : (s.fe.takeBit (s.line.rise level).bda).role = s.fe.role := by
    unfold FrameEngine.takeBit
    split <;> rfl
  simp only [State.riseInFrame, h.lineAtRise, hplaced]
  have h1 : ((s.setLine (s.line.rise level)).setFe (s.fe.takeBit (s.line.rise level).bda)).Apart :=
    ⟨rfl, h.driveBda, h.placing, htaken.trans h.role⟩
  generalize (s.setLine (s.line.rise level)).setFe (s.fe.takeBit (s.line.rise level).bda) = u at h1 ⊢
  obtain ⟨hrole, hline⟩ := u.advanceTx_kept (placed := none) (bit := (s.line.rise level).bda) (by simp)
  have h2 : (u.advanceTx none (s.line.rise level).bda).Apart := h1.congr hline hrole
  have hclock : (u.advanceTx none (s.line.rise level).bda).clockRise = u.advanceTx none (s.line.rise level).bda := by
    simp [State.clockRise, h2.role]
  rwa [hclock]

theorem rise (h : s.Apart) (level : Bool) : (s.rise level).Apart := by
  unfold State.rise
  split_ifs
  · exact h.readLines _ _
  · exact h
  · exact h.riseInFrame level
  · exact ⟨rfl, h.driveBda, h.placing, h.role⟩

theorem openingMark (h : s.Apart) (hoff : s.onBus = false) : Meets (execOpeningMark s) State.Apart := by
  refine .next ?_
  split_ifs
  · exact h.readLines _ _
  · unfold LineIf.dataFall
    split_ifs
    · exact h.setLine rfl rfl rfl
    · exact h.setLine rfl rfl rfl
  · exact h.openFrame hoff
  · exact h.setLine rfl rfl rfl

/-! ### Ends of frames off the bus -/

theorem endMark (h : s.Apart) : Meets (execEndMark s) State.Apart := by
  have hrise : s.line.bdaRise = ({ s.line with othersBda := true } : LineIf).read := by
    simp [LineIf.bdaRise, LineIf.settle, h.placing]
  rw [execEndMark_eq]
  refine .next ?_
  split_ifs
  · exact h.readLines _ _
  · exact h.setLine rfl rfl rfl
  · exact of_released (l := s.line.ended (s.fe.role == .transmitter)) (by simp) ⟨rfl, rfl, rfl⟩ (by simp)
  · rw [hrise]
    exact h.setLine rfl rfl rfl

theorem holdLimit (h : s.Apart) : Meets (execHoldLimit s) State.Apart := by
  refine .next ?_
  split_ifs
  · exact of_released (l := s.line.toHeld (s.fe.role == .transmitter) s.holdTime) (by simp) ⟨rfl, rfl, rfl⟩
      (by simp [State.abandonFrame])
  · exact h

theorem frameBroken (h : s.Apart) : Meets (execFrameBroken s) State.Apart := by
  refine .next ?_
  split_ifs
  · refine of_released (l := s.line.broken s.brokenTime) ?_ ⟨rfl, rfl, rfl⟩ (by simp)
    dsimp only
    split_ifs <;> simp
  · exact h

theorem stuckLimit (h : s.Apart) (line : Line) : Meets (execStuckLimit line s) State.Apart := by
  refine .next ?_
  dsimp only
  split_ifs
  · exact of_released (l := s.line.toStuck line s.stuckTime) (by simp) ⟨rfl, rfl, rfl⟩ (by simp [State.abandonFrame])
  · exact of_released (l := s.line.toStuck line s.stuckTime) (by simp) ⟨rfl, rfl, rfl⟩ h.role
  · exact h

/-! ### Every quiet command -/

/-- What asks for JOINING or ACTIVE changes nothing off the bus. -/
theorem unless_onBus (h : s.Apart) {p : Bool} {u : State} (hp : p = true → s.onBus = true) (hoff : s.onBus = false) :
    (if p = true then u else s).Apart := by
  rw [if_neg fun hc => by simp [hp hc] at hoff]
  exact h

theorem atDecision_onBus {kind : FrameKind} (hd : s.atDecision kind = true) : s.onBus = true := by
  simp only [State.atDecision, Bool.and_eq_true] at hd
  exact hd.1.1.1

/-- A quiet command of a station off the bus leaves it apart. -/
theorem exec_quiet (h : s.Apart) (hoff : s.onBus = false) (c : Instr) (hc : quietCommand c = true) :
    Meets (exec c s) State.Apart := by
  have hjoining (hj : (s.control.link == .joining) = true) : s.onBus = true :=
    s.onBus_iff.2 (.inl (by simpa using hj))
  have hrise (p : Prop) [Decidable p] (level : Bool) : (if p then s.rise level else s).Apart := by
    split_ifs
    · exact h.rise level
    · exact h
  cases c
  case transactionBegin empty => exact .next (h.congr rfl rfl)
  case quietGap =>
    refine .next ?_
    split_ifs
    · exact h.setLine rfl rfl rfl
    · exact h
  case idleLost line =>
    refine .next ?_
    split_ifs
    · cases line <;> exact h.setLine rfl rfl rfl
    · exact h
  case rightToOpen => exact .next (h.unless_onBus (by simp +contextual) hoff)
  case openingMark => exact h.openingMark hoff
  case arbitrationLoss => exact .next (hrise _ _)
  case lateLoss => exact .next (hrise _ _)
  case beaconFrame => exact .next (h.unless_onBus (fun hd => atDecision_onBus (Bool.and_eq_true _ _ ▸ hd).1) hoff)
  case digestFrame => exact .next (h.unless_onBus (fun hd => atDecision_onBus (Bool.and_eq_true _ _ ▸ hd).1) hoff)
  case pullFrame => exact .next (h.unless_onBus (fun hd => atDecision_onBus (Bool.and_eq_true _ _ ▸ hd).1) hoff)
  case voteOutcome level => exact .next (hrise _ _)
  case endMark => exact h.endMark
  case holdLimit => exact h.holdLimit
  case frameBroken => exact h.frameBroken
  case stuckLimit line => exact h.stuckLimit line
  case recovery =>
    refine .next ?_
    split_ifs
    · exact ⟨h.driveBck, h.driveBda, h.placing, h.role⟩
    · exact h
  case resetRelease => exact .next (h.congr rfl rfl)
  case beaconTimer => exact .next (h.unless_onBus (by simp +contextual) hoff)
  case silenceTimeout station =>
    refine .next ?_
    split
    · exact h.unless_onBus (by simp +contextual) hoff
    · exact h
  case listenWindowEnd => exact .next (h.unless_onBus (fun hc => hjoining (Bool.and_eq_true _ _ ▸ hc).1) hoff)
  case settleElapsed => exact .next (h.unless_onBus (fun hc => hjoining (Bool.and_eq_true _ _ ▸ hc).1) hoff)
  case nextAskDue tag => exact .next (h.unless_onBus (by simp +contextual) hoff)
  case pullUnanswered tag =>
    refine .next ?_
    split
    · exact h.unless_onBus (by simp +contextual) hoff
    · exact h
  case bitTaken level => exact .next (h.rise level)
  case bckFall => exact h.bckFall hoff
  case clockHalfEnd => exact .next (by simpa [h.role] using h)
  all_goals cases hc

end State.Apart

namespace ApartOffBus

variable {s t : State}

theorem of_onBus (h : t.onBus = true) : ApartOffBus t :=
  fun hoff => by simp [h] at hoff

theorem of_apart (h : t.Apart) : ApartOffBus t :=
  fun _ => h

theorem congr (h : ApartOffBus s) (hlink : t.control.link = s.control.link) (hline : t.line = s.line)
    (hrole : t.fe.role = s.fe.role) : ApartOffBus t :=
  fun hoff => (h (by rwa [State.onBus, ← hlink])).congr hline hrole

theorem answer (h : ApartOffBus s) (c : ResultCode) (d : List Byte) : ApartOffBus (s.answer c d) :=
  h.congr (by simp) (by simp) (by simp)

/-! ### Moves of the link state -/

theorem enterJoining (hl : s.control.link = .joining) : ApartOffBus s.enterJoining :=
  of_onBus (by simp [State.onBus, hl, LinkState.onBus])

theorem toQuiesced (s : State) (reason : Reason) : ApartOffBus (s.toQuiesced reason) :=
  of_apart <| .of_released (l := { s.line.release with right := false })
    (by simp [State.toQuiesced, State.releaseLines]) ⟨rfl, rfl, rfl⟩ (by simp [State.toQuiesced])

theorem toFaulted (s : State) : ApartOffBus s.toFaulted :=
  of_apart <| .of_released (l := { s.line.release with right := false })
    (by simp [State.toFaulted, State.releaseLines]) ⟨rfl, rfl, rfl⟩ (by simp [State.toFaulted])

theorem completeQuiesce (s : State) : ApartOffBus s.completeQuiesce := by
  refine answer ?_ .ok []
  exact (toQuiesced s .hostRequest).congr rfl rfl rfl

theorem startKeepingOp (s : State) (cause : StartCause) : ApartOffBus (s.startKeepingOp cause) :=
  of_apart <| .of_restart (l := s.line) (by simp [State.startKeepingOp, State.enterStart])
    (by simp [State.startKeepingOp, State.enterStart])

theorem startCuttingOp (s : State) : ApartOffBus s.startCuttingOp :=
  of_apart <| .of_restart (l := s.line) (by simp [State.startCuttingOp, State.enterStart])
    (by simp [State.startCuttingOp, State.enterStart])

theorem leaveStart (h : ApartOffBus s) : ApartOffBus s.leaveStart := by
  unfold State.leaveStart
  split_ifs with hl
  · dsimp only
    split_ifs
    · exact enterJoining rfl
    · exact of_apart ((h (by simp [State.onBus, hl, LinkState.onBus])).congr rfl rfl)
  · exact h

theorem toFrozen (s : State) : ApartOffBus s.toFrozen := by
  refine of_apart ?_
  simp only [State.toFrozen]
  generalize (if s.control.quiesceWaiting then s.completeQuiesce else s) = u
  exact .of_restart (l := u.cutFrame.line) (by simp) (by simp)

theorem leaveFrozen (h : ApartOffBus s) (hl : s.control.link = .frozen) : ApartOffBus s.leaveFrozen := by
  simp only [State.leaveFrozen]
  split
  · exact of_apart ((h (by simp [State.onBus, hl, LinkState.onBus])).congr rfl rfl)
  · exact enterJoining rfl

/-! ### Requests -/

/-- A request keeps the lines if its owner does. -/
theorem request (h : ApartOffBus s) (code : Byte) (args : List Byte) (sized gated : Bool) (owner : State → State)
    (howner : ∀ t, ApartOffBus t → ApartOffBus (owner t)) : ApartOffBus (s.request code args sized gated owner) := by
  have htaken : ApartOffBus (s.taken code args) := h.congr rfl rfl rfl
  obtain ⟨p, hp, -⟩ | ⟨-, ⟨c, hc⟩ | ⟨-, ho⟩⟩ := s.request_cases code args sized gated owner
  · rw [hp]
    exact h.congr rfl rfl rfl
  · rw [hc]
    exact htaken.answer c []
  · rw [ho]
    exact howner _ htaken

theorem ownerWrite (h : ApartOffBus s) (args : List Byte) : ApartOffBus (State.ownerWrite args s) := by
  refine h.congr (by simp) (by simp) ?_
  unfold State.ownerWrite State.applyWrite
  split
  · simp
  · split <;> simp

theorem ownerQuiesce (h : ApartOffBus s) : ApartOffBus s.ownerQuiesce := by
  unfold State.ownerQuiesce
  split
  · exact h.answer _ _
  · exact completeQuiesce s
  · split_ifs
    · exact h.congr rfl rfl rfl
    · exact completeQuiesce s

theorem ownerResume (h : ApartOffBus s) : ApartOffBus s.ownerResume := by
  unfold State.ownerResume
  split_ifs
  · exact (enterJoining (s := s.move .joining .hostRequest) rfl).answer _ _
  · exact h.answer _ _
  · exact h.answer _ _

/-! ### The write engine -/

theorem nextWipe (h : ApartOffBus s) (pair : Nat) (allFreed : Bool) : ApartOffBus (s.nextWipe pair allFreed) := by
  have hfree : ApartOffBus s.freeEngine := h.congr rfl rfl rfl
  simp only [State.nextWipe]
  split_ifs
  · exact h.congr rfl rfl rfl
  · exact hfree
  · exact hfree.answer _ _
  · exact hfree.answer _ _

theorem endCommit (h : ApartOffBus s) (tag : Tag) (changed : Bool) (st : StoreState) :
    ApartOffBus (s.endCommit tag changed st) :=
  h.congr (by simp [State.endCommit, State.freeEngine, State.setEngine])
    (by simp [State.endCommit, State.freeEngine, State.setEngine])
    (by simp [State.endCommit, State.freeEngine, State.setEngine])

theorem opSucceeds (h : ApartOffBus s) (op : StoreOp) : ApartOffBus (s.opSucceeds op) := by
  have hfree : ApartOffBus (s.setArray (s.store.array.written op)).freeEngine := h.congr rfl rfl rfl
  have hpair (n : Nat) (f : PairMapEntry → PairMapEntry) :
      ApartOffBus ((s.setArray (s.store.array.written op)).modifyPair n f) := h.congr rfl rfl rfl
  simp only [State.opSucceeds]
  split
  · split_ifs
    · exact h.congr rfl rfl rfl
    · exact (hpair _ _).endCommit _ _ _
  · split_ifs
    · exact hfree
    · exact hfree.answer _ _
  · exact (hpair _ _).nextWipe _ _
  · split_ifs
    · exact hfree
    · exact hfree.leaveStart

theorem opFails (h : ApartOffBus s) (op : StoreOp) : ApartOffBus (s.opFails op) := by
  have hfree : ApartOffBus s.freeEngine := h.congr rfl rfl rfl
  unfold State.opFails State.opFailsFinally
  split
  · exact h.congr rfl rfl rfl
  · split
    · split_ifs
      · exact hfree
      · exact (h.endCommit _ _ _).congr rfl rfl rfl
    · split_ifs
      · exact hfree
      · exact hfree.answer _ _
    · exact nextWipe (s := s.modifyPair _ _) (h.congr rfl rfl rfl) _ _
    · split_ifs
      · exact hfree
      · exact leaveStart (s := s.freeEngine.post _) (hfree.congr rfl rfl rfl)

theorem writeDone (h : ApartOffBus s) (current good : Bool) : Meets (execWriteDone current good s) ApartOffBus := by
  refine .next ?_
  split
  · exact h
  · split_ifs
    · exact h
    · exact h.opSucceeds _
    · refine opFails (s := (s.setArray _).useFree 2) ?_ _
      exact h.congr rfl rfl rfl

theorem writeLimit (h : ApartOffBus s) : Meets (execWriteLimit s) ApartOffBus := by
  refine .next ?_
  split
  · exact h
  · split_ifs
    · exact h
    · refine opFails (s := (s.setArray _).useFree 2) ?_ _
      exact h.congr rfl rfl rfl

theorem commitStart (h : ApartOffBus s) : Meets (execCommitStart s) ApartOffBus := by
  refine .next ?_
  split_ifs
  · split
    · exact h
    · split
      · exact h.congr (by simp) (by simp) (by simp)
      · exact h.congr (by simp) (by simp) (by simp)
      · exact h
  · exact h

/-! ### Received PUBLISH frames, reports and the supply -/

theorem publishFrame (h : ApartOffBus s) : Meets (execPublishFrame s) ApartOffBus := by
  refine .next ?_
  split
  · rename_i hd
    have hbus := State.Apart.atDecision_onBus hd
    have hcontrol {t : State} (ht : t.control = s.control) : ApartOffBus t := of_onBus ((State.onBus_congr ht).trans hbus)
    split
    · split
      · exact hcontrol (by simp)
      · exact hcontrol (by simp)
    · exact h
  · exact h

theorem lateLossConfirmed (h : ApartOffBus s) : Meets (execLateLossConfirmed s) ApartOffBus := by
  refine .next ?_
  split
  · rename_i hd
    have hbus : s.onBus = true := (Bool.and_eq_true _ _ ▸ hd).1
    have hcontrol {t : State} (ht : t.control = s.control) : ApartOffBus t := of_onBus ((State.onBus_congr ht).trans hbus)
    split
    · split
      · exact hcontrol (by simp)
      · exact h
    · exact hcontrol (by simp)
    · exact h
  · exact h

theorem duplicateId (h : ApartOffBus s) : Meets (execDuplicateId s) ApartOffBus := by
  have hq := toQuiesced (s.setReports { s.reports with duplicateId := false }) .duplicateId
  refine .next ?_
  split
  · unfold State.endWaiting
    split
    · refine answer ?_ _ _
      exact hq.congr rfl rfl rfl
    · exact hq
  · exact h.congr rfl rfl rfl

theorem joinComplete (h : ApartOffBus s) : Meets (execJoinComplete s) ApartOffBus := by
  refine .next ?_
  split_ifs
  · exact of_onBus rfl
  · exact h.congr rfl rfl rfl

theorem quiesceComplete (h : ApartOffBus s) : Meets (execQuiesceComplete s) ApartOffBus := by
  refine .next ?_
  split_ifs
  · exact (completeQuiesce s).congr rfl rfl rfl
  · exact h.congr rfl rfl rfl

theorem pfailEdge (h : ApartOffBus s) (asserted : Bool) : ApartOffBus (s.pfailEdge asserted) := by
  unfold State.pfailEdge
  split_ifs
  · exact h
  · exact h.congr rfl rfl rfl

theorem supplyLow (h : ApartOffBus s) (lasting : Bool) : Meets (execSupplyLow s lasting) ApartOffBus := by
  have hlow (t : State) : ApartOffBus t.takeSupplyLow := by
    unfold State.takeSupplyLow
    split
    · exact toFrozen t
    · exact startCuttingOp t
  refine .next ?_
  split_ifs
  · exact h.pfailEdge true
  · exact h.congr rfl rfl rfl
  · split
    · exact h.congr rfl rfl rfl
    · exact h.congr rfl rfl rfl
    all_goals exact hlow _

theorem supplyGood (h : ApartOffBus s) (lasting : Bool) : Meets (execSupplyGood s lasting) ApartOffBus := by
  have h1 : ApartOffBus { s with pfailPin := false } := h.congr rfl rfl rfl
  refine .next ?_
  split_ifs with hn hg hl
  · exact h.pfailEdge false
  · exact h1
  · exact h1.leaveFrozen hl
  · exact h1.congr rfl rfl rfl

/-! ### Steps -/

/-- R39: every command keeps the lines released and no role off the bus. -/
theorem exec_keeps (c : Instr) (s : State) (h : ApartOffBus s) : Meets (exec c s) ApartOffBus := by
  by_cases hq : quietCommand c = true
  · cases hbus : s.onBus with
    | true => exact (exec_quiet c hq s).mono fun t ht => of_onBus ((State.onBus_congr ht.control).trans hbus)
    | false => exact ((h hbus).exec_quiet hbus c hq).mono fun t => of_apart
  cases c
  case read args => exact .next (h.request _ _ _ _ _ fun t ht => ht.congr (by simp) (by simp) (by simp))
  case nextTag args => exact .next (h.request _ _ _ _ _ fun t ht => ht.congr (by simp) (by simp) (by simp))
  case write args => exact .next (h.request _ _ _ _ _ fun t ht => ht.ownerWrite args)
  case watch args => exact .next (h.request _ _ _ _ _ fun t ht => ht.congr (by simp) (by simp) (by simp))
  case status args => exact .next (h.request _ _ _ _ _ fun t ht => ht.answer _ _)
  case peers args => exact .next (h.request _ _ _ _ _ fun t ht => ht.answer _ _)
  case notice args => exact .next (h.request _ _ _ _ _ fun t ht => ht.congr (by simp) (by simp) (by simp))
  case quiesce args => exact .next (h.request _ _ _ _ _ fun t ht => ht.ownerQuiesce)
  case resume args => exact .next (h.request _ _ _ _ _ fun t ht => ht.ownerResume)
  case configRead args => exact .next (h.request _ _ _ _ _ fun t ht => ht.answer _ _)
  case configWrite args => exact .next (h.request _ _ _ _ _ fun t ht => ht.congr (by simp) (by simp) (by simp))
  case wipe args => exact .next (h.request _ _ _ _ _ fun t ht => ht.congr (by simp) (by simp) (by simp))
  case restart args => exact .next (h.request _ _ _ _ _ fun t _ => startKeepingOp t _)
  case notACommandCode code args =>
    refine .next ?_
    split_ifs
    · exact h
    · exact h.request _ _ _ _ _ fun t ht => ht
  case fetch clocked => exact .next (h.congr rfl rfl rfl)
  case publishFrame => exact h.publishFrame
  case lateLossConfirmed => exact h.lateLossConfirmed
  case duplicateId => exact h.duplicateId
  case busStuck =>
    refine .next ?_
    split_ifs
    · exact toFaulted _
    · exact h.congr rfl rfl rfl
  case busRecovered =>
    refine .next ?_
    split_ifs
    · exact enterJoining rfl
    · exact h.congr rfl rfl rfl
  case joinComplete => exact h.joinComplete
  case quiesceComplete => exact h.quiesceComplete
  case powerUp pfail => exact .next (startCuttingOp _)
  case resetAssert lasting =>
    refine .next ?_
    split
    · exact startKeepingOp _ _
    · split_ifs
      · exact h
      · exact h.congr rfl rfl rfl
  case startSequence =>
    refine .next ?_
    split_ifs
    · exact h.congr (by simp [State.runStart, State.beginOp, State.setArray, State.setEngine]) (by simp) (by simp)
    · exact h
  case supplyLow lasting => exact h.supplyLow lasting
  case supplyGood lasting => exact h.supplyGood lasting
  case commitStart => exact h.commitStart
  case configWriteStart =>
    refine .next ?_
    split
    · split_ifs
      · exact h.congr rfl rfl rfl
      · exact h
    · exact h
  case wipeStart =>
    refine .next ?_
    split
    · split_ifs
      · exact h.congr rfl rfl rfl
      · exact h
    · exact h
  case writeDone current good => exact h.writeDone current good
  case writeLimit => exact h.writeLimit
  all_goals exact absurd rfl hq

/-- Log entry 4: a quantum places nothing on a line that the station has nothing due for. -/
theorem advance (h : ApartOffBus s) : ApartOffBus s.advance := by
  intro hoff
  have hs : s.Apart := h hoff
  have hplacing : s.line.countLevels.placing = none := hs.placing
  have hdue (quarter : Nat) : s.line.countLevels.placeDue quarter = s.line.countLevels := by
    simp [LineIf.placeDue, LineIf.settle, hplacing]
  have hline : s.advance.line = s.line ∨ s.advance.line = s.line.countLevels.endLookup := by
    show s.lineAfter = _ ∨ s.lineAfter = _
    unfold State.lineAfter
    rw [hdue]
    split_ifs
    · exact .inr rfl
    · exact .inl rfl
  obtain hline | hline := hline
  · exact hs.congr hline rfl
  · have hend : s.line.countLevels.endLookup.driveBck = false ∧ s.line.countLevels.endLookup.driveBda = false ∧
        s.line.countLevels.endLookup.placing = none := by
      unfold LineIf.endLookup
      split_ifs
      · exact ⟨rfl, hs.driveBda, hs.placing⟩
      · exact ⟨hs.driveBck, hs.driveBda, hs.placing⟩
    obtain ⟨hbck, hbda, hplacing⟩ := hend
    exact ⟨by rw [hline, hbck], by rw [hline, hbda], by rw [hline, hplacing], hs.role⟩

end ApartOffBus

/-- Settles O7: off the bus only an entry into JOINING gives the station a line or a role back, and every move off the bus
takes both. -/
theorem linesReleasedOffTheBus : Obligations.LinesReleasedOffTheBus := by
  intro s t hs hstep
  rw [State.linesInv_iff] at hs ⊢
  exact (step_preserves (P := ApartOffBus) (fun s rest h => h.congr rfl rfl rfl) (fun _ h => h.advance)
    ApartOffBus.exec_keeps hs).of_eq hstep

end Sys2Proof.Machine
end

section
/-! SUPPORT, SETTLES O30, O31, O32. Marks, limits and broken frames: how a frame opens and ends, and the attempt that its end
counts. -/

namespace Sys2Proof.Machine

/-! ### Blocks left as they were -/

theorem Block.agrees_trans {b : Block} {s t u : State} (h : b.agrees s t = true) (h' : b.agrees t u = true) :
    b.agrees s u = true := by
  cases b <;> simp_all [Block.agrees]

theorem State.keepsAllBut_iff (s t : State) (changed : List Block) : s.keepsAllBut t changed = true ↔
    t.pending = s.pending ∧ ∀ b, b ∉ changed → b.agrees s t = true := by
  have hall (b : Block) : b ∈ Block.all := by cases b <;> decide
  simp only [State.keepsAllBut, Bool.and_eq_true, beq_iff_eq, List.all_eq_true, Bool.or_eq_true, List.contains_iff_mem]
  exact and_congr_right fun _ => forall_congr' fun b => by simp [hall b, or_iff_not_imp_left]

/-- What two changes in a row leave as it was. -/
theorem State.keepsAllBut_trans {s t u : State} {first second changed : List Block} (h : s.keepsAllBut t first = true)
    (h' : t.keepsAllBut u second = true) (hsub : first ⊆ changed) (hsub' : second ⊆ changed) :
    s.keepsAllBut u changed = true := by
  rw [State.keepsAllBut_iff] at h h' ⊢
  exact ⟨h'.1.trans h.1, fun b hb =>
    Block.agrees_trans (h.2 b fun hc => hb (hsub hc)) (h'.2 b fun hc => hb (hsub' hc))⟩

theorem State.keepsAllBut_mono {s t : State} {first changed : List Block} (h : s.keepsAllBut t first = true)
    (hsub : first ⊆ changed) : s.keepsAllBut t changed = true := by
  rw [State.keepsAllBut_iff] at h ⊢
  exact ⟨h.1, fun b hb => h.2 b fun hc => hb (hsub hc)⟩

@[simp] theorem State.keepsAllBut_setReports (s : State) (r : Reports) :
    s.keepsAllBut (s.setReports r) [.reports] = true := by
  simp [State.keepsAllBut, Block.all, Block.agrees]

@[simp] theorem State.keepsAllBut_setLine (s : State) (l : LineIf) : s.keepsAllBut (s.setLine l) [.line] = true := by
  simp [State.keepsAllBut, Block.all, Block.agrees]

/-! ### The item returned and the attempt counted (R86, R87, R98) -/

section Head
variable {s : State} {item : SendItem} {rest : List SendItem}

theorem State.returnItem_head (hq : s.sendQ = item :: rest) (hin : item.inFlight = true) :
    s.returnItem = (s.setSendQ ({ item with inFlight := false } :: rest)).toldReturned item.payload.kind := by
  simp [State.returnItem, hq, hin]

theorem State.countAttempt_returns (hq : s.sendQ = item :: rest) (hin : item.inFlight = true)
    (hn : item.attempts + 1 < maxAttempts) : s.countAttempt =
      (s.setSendQ ({ item with inFlight := false, attempts := item.attempts + 1 } :: rest)).toldReturned
        item.payload.kind := by
  simp only [State.countAttempt, hq, if_pos hin, if_pos hn]
  exact State.returnItem_head (item := { item with attempts := item.attempts + 1 }) rfl hin

theorem State.complete_head (hq : s.sendQ = item :: rest) (hin : item.inFlight = true) : s.complete .undelivered =
    ((s.setSendQ (afterRemoval s.onBus item rest)).postIf
      (completionNotice item.payload (s.fe.snapshot.bind (·.captured)) .undelivered)).toldCompleted
        item.payload.kind .undelivered := by
  simp only [State.complete, hq, hin, if_true]
  cases item.payload <;> rfl

theorem State.countAttempt_ends (hq : s.sendQ = item :: rest) (hin : item.inFlight = true)
    (hn : ¬item.attempts + 1 < maxAttempts) : s.countAttempt =
      ((s.setSendQ (afterRemoval s.onBus { item with attempts := item.attempts + 1 } rest)).postIf
        (completionNotice item.payload (s.fe.snapshot.bind (·.captured)) .undelivered)).toldCompleted
          item.payload.kind .undelivered := by
  simp only [State.countAttempt, hq, if_pos hin, if_neg hn]
  exact State.complete_head (s := s.setSendQ _) (item := { item with attempts := item.attempts + 1 }) rfl hin

end Head

/-- R86, R87: from `s` to `t` an attempt has been counted against the IN_FLIGHT head: below four it is WAITING again, and at
the fourth it has ended UNDELIVERED. -/
structure AttemptCounted (s : State) (item : SendItem) (rest : List SendItem) (t : State) : Prop where
  returned : item.attempts + 1 < 4 →
    t.sendQ = { item with inFlight := false, attempts := item.attempts + 1 } :: rest ∧
      s.keepsAllBut t [.line, .fe, .reports, .sendQ, .sync] = true
  publish : 4 ≤ item.attempts + 1 → ∀ tag again, item.payload = .publish tag again →
    t.sendQ = (if again && s.onBus then rest ++ [⟨.publish tag false, false, 0⟩] else rest) ∧
      t.port.notices = postInto s.port.notices
        ⟨.undelivered, some tag, none, s.fe.snapshot.bind (·.captured), some .publish⟩
  other : 4 ≤ item.attempts + 1 → ∀ r, (item.payload = .pull ∧ r = Reason.pull) ∨
      (item.payload = .digest ∧ r = .digest) ∨ (item.payload = .beacon ∧ r = .beacon) →
    t.port.notices = postInto s.port.notices ⟨.undelivered, none, none, none, some r⟩
  kept : 4 ≤ item.attempts + 1 → s.keepsAllBut t [.line, .fe, .reports, .sendQ, .sync, .port] = true

theorem State.countAttempt_counted {s : State} {item : SendItem} {rest : List SendItem} (hq : s.sendQ = item :: rest)
    (hin : item.inFlight = true) : AttemptCounted s item rest s.countAttempt := by
  have hmax : maxAttempts = 4 := rfl
  by_cases hn : item.attempts + 1 < maxAttempts
  · rw [State.countAttempt_returns hq hin hn]
    have hlow (h : 4 ≤ item.attempts + 1) : False := by omega
    exact {
      returned := fun _ => ⟨by simp, by simp [State.keepsAllBut, Block.all, Block.agrees]⟩
      publish := fun h => (hlow h).elim
      other := fun h => (hlow h).elim
      kept := fun h => (hlow h).elim }
  · rw [State.countAttempt_ends hq hin hn]
    exact {
      returned := fun h => absurd h hn
      publish := fun _ tag again hp => by
        cases again <;> cases s.onBus <;>
          simp [hp, afterRemoval, completionNotice, State.postIf, State.toldCompleted, Payload.kind, SendItem.fresh]
      other := fun _ r hr => by
        rcases hr with ⟨hp, rfl⟩ | ⟨hp, rfl⟩ | ⟨hp, rfl⟩ <;>
          simp [hp, completionNotice, State.postIf, Payload.kind, FrameKind.reason]
      kept := fun _ => by
        rcases hp : item.payload with ⟨tag, again⟩ | _ | _ | _ <;>
          simp [State.keepsAllBut, Block.all, Block.agrees] }

namespace AttemptCounted

variable {s t u : State} {item : SendItem} {rest : List SendItem}

/-- What follows the attempt changes none of its effects. -/
theorem before (h : AttemptCounted s item rest t) (hk : t.keepsAllBut u [.line, .fe, .reports] = true) :
    AttemptCounted s item rest u := by
  have hagree := (State.keepsAllBut_iff _ _ _).1 hk
  have hq : u.sendQ = t.sendQ := by simpa [Block.agrees] using hagree.2 .sendQ (by decide)
  have hport : u.port = t.port := by simpa [Block.agrees] using hagree.2 .port (by decide)
  exact {
    returned := fun hn => ⟨hq.trans (h.returned hn).1, State.keepsAllBut_trans (h.returned hn).2 hk (by simp) (by simp)⟩
    publish := fun hn tag again hp => by rw [hq, hport]; exact h.publish hn tag again hp
    other := fun hn r hr => by rw [hport]; exact h.other hn r hr
    kept := fun hn => State.keepsAllBut_trans (h.kept hn) hk (by simp) (by simp) }

/-- The lines let go before the attempt is counted. -/
theorem of_setLine {l : LineIf} (h : AttemptCounted (s.setLine l) item rest t) : AttemptCounted s item rest t where
  returned hn := ⟨(h.returned hn).1, State.keepsAllBut_trans (s.keepsAllBut_setLine l) (h.returned hn).2 (by simp) (by simp)⟩
  publish := h.publish
  other := h.other
  kept hn := State.keepsAllBut_trans (s.keepsAllBut_setLine l) (h.kept hn) (by simp) (by simp)

end AttemptCounted

/-- R69, R86: an attempt counted, after which the transmit machine rests with an empty snapshot buffer. -/
structure AttemptAtRest (s : State) (item : SendItem) (rest : List SendItem) (t : State) : Prop where
  counted : AttemptCounted s item rest t
  snapshot : t.fe.snapshot = none
  tx : t.sendQ ≠ [] → t.fe.tx = .waiting

namespace AttemptAtRest

variable {s t u : State} {item : SendItem} {rest : List SendItem}

theorem waiting (h : AttemptAtRest s item rest t) (hn : item.attempts + 1 < 4) :
    t.sendQ = { item with inFlight := false, attempts := item.attempts + 1 } :: rest ∧ t.fe.tx = .waiting ∧
      s.keepsAllBut t [.line, .fe, .reports, .sendQ, .sync] = true := by
  obtain ⟨hq, hk⟩ := h.counted.returned hn
  exact ⟨hq, h.tx (by simp [hq]), hk⟩

theorem of_setLine {l : LineIf} (h : AttemptAtRest (s.setLine l) item rest t) : AttemptAtRest s item rest t :=
  ⟨h.counted.of_setLine, h.snapshot, h.tx⟩

theorem setReports (h : AttemptAtRest s item rest t) (r : Reports) : AttemptAtRest s item rest (t.setReports r) :=
  ⟨h.counted.before (by simp [State.keepsAllBut, Block.all, Block.agrees]), h.snapshot, h.tx⟩

theorem leaveFrame (h : AttemptAtRest s item rest t) : AttemptAtRest s item rest t.leaveFrame :=
  ⟨h.counted.before (by simp [State.keepsAllBut, Block.all, Block.agrees]), by simpa [State.leaveFrame] using h.snapshot,
    by simpa [State.leaveFrame] using h.tx⟩

end AttemptAtRest

section Open
variable {s : State} {item : SendItem} {rest : List SendItem}

theorem State.countAttempt_rest (hq : s.sendQ = item :: rest) (hin : item.inFlight = true) :
    AttemptAtRest s item rest s.countAttempt.rest where
  counted := (State.countAttempt_counted hq hin).before (by simp [State.keepsAllBut, Block.all, Block.agrees])
  snapshot := by simp [State.rest]
  tx h := by simpa [State.rest] using h

/-- R77: a late loss not confirmed counts an attempt. -/
theorem State.lossNotConfirmed_counts (hq : s.sendQ = item :: rest) (hin : item.inFlight = true) :
    AttemptAtRest s item rest s.lossNotConfirmed := by
  have h := State.countAttempt_rest hq hin
  exact ⟨h.counted.before (by simp [State.lossNotConfirmed, State.keepsAllBut, Block.all, Block.agrees]), h.snapshot, h.tx⟩

@[simp] theorem State.lossNotConfirmed_loss (s : State) : s.lossNotConfirmed.fe.loss = none := rfl

/-- R74, R77: a late loss whose check code has not been found good is not confirmed by the end of its frame. -/
theorem State.endLateLoss_unconfirmed (hgood : s.fe.buf.good ≠ some true) : s.endLateLoss = s.lossNotConfirmed := by
  simp [State.endLateLoss, FrameEngine.lossConfirmed, hgood]

/-- R50, R53, R86: a frame abandoned before its outcome counts an attempt. -/
theorem State.abandonFrame_counts (hopen : s.fe.outcomeOpen = true) (hq : s.sendQ = item :: rest)
    (hin : item.inFlight = true) : AttemptAtRest s item rest s.abandonFrame := by
  simp only [State.abandonFrame, hopen, if_true]
  split
  · exact (State.lossNotConfirmed_counts hq hin).leaveFrame
  · exact (State.countAttempt_rest hq hin).leaveFrame

end Open

/-! ### The end of the own part (R79, R90) -/

theorem FrameEngine.outcomeOpen_of {f : FrameEngine} (h : f.tx = .contending ∨ f.tx = .sending ∨ f.tx = .lostLate ∨
    (f.tx = .voting ∧ f.outcomeFixed = false)) : f.outcomeOpen = true := by
  rcases h with h | h | h | ⟨h, hfixed⟩ <;> simp [FrameEngine.outcomeOpen, *]

theorem FrameEngine.inFrame_of_outcomeOpen {f : FrameEngine} (h : f.outcomeOpen = true) : f.inFrame = true := by
  cases htx : f.tx <;> simp_all [FrameEngine.outcomeOpen, FrameEngine.inFrame]

@[simp] theorem State.leaveFrame_tx (s : State) :
    s.leaveFrame.fe.tx = s.fe.tx ∧ s.leaveFrame.fe.snapshot = s.fe.snapshot ∧ s.leaveFrame.fe.loss = s.fe.loss := by
  simp [State.leaveFrame]

theorem State.leaveFrame_reports (s : State) :
    s.leaveFrame.reports = { s.reports with partEnded := s.reports.partEnded || s.hasPart } := by
  cases h : s.hasPart <;> simp [State.leaveFrame, State.reportPartEnded, h]

theorem State.leaveFrame_keeps (s : State) : s.keepsAllBut s.leaveFrame [.fe, .reports] = true := by
  simp [State.keepsAllBut, Block.all, Block.agrees]

theorem State.setLine_leaveFrame_keeps (s : State) (l : LineIf) :
    s.keepsAllBut (s.setLine l).leaveFrame [.line, .fe, .reports] = true :=
  State.keepsAllBut_trans (s.keepsAllBut_setLine l) (State.leaveFrame_keeps _) (by simp) (by simp)

theorem State.setLine_rest_leaveFrame_keeps (s : State) (l : LineIf) :
    s.keepsAllBut (s.setLine l).rest.leaveFrame [.line, .fe, .reports] = true := by
  simp [State.keepsAllBut, Block.all, Block.agrees]

/-- A station that sends nothing only leaves the frame. -/
theorem State.abandonFrame_silent {s : State} (h : s.fe.tx = .idle ∨ s.fe.tx = .waiting) :
    s.abandonFrame = s.leaveFrame := by
  rcases h with h | h <;> simp [State.abandonFrame, FrameEngine.outcomeOpen, FrameEngine.inFrame, h]

/-- R85: once the outcome is fixed it stands. -/
theorem State.abandonFrame_fixed {s : State} (htx : s.fe.tx = .voting) (hfixed : s.fe.outcomeFixed = true) :
    s.abandonFrame = s.rest.leaveFrame := by
  simp [State.abandonFrame, FrameEngine.outcomeOpen, FrameEngine.inFrame, htx, hfixed]

@[simp] theorem State.abandonFrame_receive (s : State) :
    s.abandonFrame.fe.rx = .hunt ∧ s.abandonFrame.fe.role = .none := by
  simp [State.abandonFrame]

/-! ### HOLD_LIMIT and FRAME_BROKEN (R50, R52) -/

theorem exec_holdLimit {s : State} (htracks : s.tracks = true) (hopen : s.line.frameOpen = true) :
    exec .holdLimit s = .next (s.setLine (s.line.toHeld (s.fe.role == .transmitter) s.holdTime)).abandonFrame := by
  refine congrArg Host.Outcome.next (if_pos ?_)
  simp [htracks, hopen]

/-- R52: where BDA reads high at the limit, the quiet count has run as long. -/
theorem State.broken_quiet {s : State} (h : s.line.bda = true) :
    4 * s.control.bitTime ≤ (s.line.broken s.brokenTime).quiet := by
  have h1 : ({ s.line with
      othersBck := true, bckSeen := true, frameOpen := false, cond := .frame, yieldOwed := false } : LineIf).bda = true := h
  simp only [LineIf.broken, h1, if_true]
  exact le_max_right _ _

theorem exec_frameBroken {s : State} (htracks : s.tracks = true) (hopen : s.line.frameOpen = true)
    (hrole : s.fe.role ≠ .transmitter) : exec .frameBroken s = .next
      (if s.fe.tx = .lostLate then (s.setLine (s.line.broken s.brokenTime)).endLateLoss
        else s.setLine (s.line.broken s.brokenTime)).leaveFrame := by
  refine congrArg Host.Outcome.next (if_pos ?_)
  simp [htracks, hopen, hrole]

/-- Settles O31: the lines are let go, and the abandoned frame counts its attempt. -/
theorem abandonedFramesCountAnAttempt : Obligations.AbandonedFramesCountAnAttempt := by
  constructor
  · intro s htracks hopen
    refine ⟨_, exec_holdLimit htracks hopen, by simp [LineIf.toHeld], by simp [LineIf.toHeld], by simp [LineIf.toHeld],
      by simp [LineIf.toHeld], by simp [LineIf.toHeld], by simp, by simp, fun htx => ?_, fun item rest htx hq hin => ?_⟩
    · rw [State.abandonFrame_silent (by simpa using htx)]
      exact ⟨by simp, s.setLine_leaveFrame_keeps _⟩
    · generalize s.line.toHeld (s.fe.role == .transmitter) s.holdTime = l
      have h : AttemptAtRest s item rest (s.setLine l).abandonFrame :=
        (State.abandonFrame_counts (s := s.setLine l) (FrameEngine.outcomeOpen_of htx) hq hin).of_setLine
      exact ⟨h.snapshot, h.waiting, fun hn => ⟨h.counted.publish hn, h.counted.other hn, h.counted.kept hn⟩⟩
  · intro s htracks hopen hrole
    refine ⟨_, exec_frameBroken htracks hopen hrole, ?_⟩
    generalize hu : (if s.fe.tx = .lostLate then (s.setLine (s.line.broken s.brokenTime)).endLateLoss
      else s.setLine (s.line.broken s.brokenTime)) = u
    have hline : u.line = s.line.broken s.brokenTime := by
      rw [← hu]
      split <;> simp
    refine ⟨by simp [hline, LineIf.broken], by simp [hline, LineIf.broken], by simp [hline, LineIf.broken],
      by simp [hline, LineIf.broken], by simp [hline, LineIf.broken], by simp, by simp,
      fun hbda => by simpa [hline] using State.broken_quiet hbda, fun htx => ?_, fun item rest hlost hgood hq hin hn => ?_⟩
    · rw [← hu, if_neg (by rcases htx with htx | htx <;> simp [htx])]
      exact ⟨by simp, s.setLine_leaveFrame_keeps _⟩
    · rw [← hu, if_pos hlost, State.endLateLoss_unconfirmed (by simpa using hgood)]
      have h := (State.lossNotConfirmed_counts (s := s.setLine (s.line.broken s.brokenTime)) hq hin).of_setLine.leaveFrame
      obtain ⟨hq', htx', hk⟩ := h.waiting hn
      exact ⟨hq', htx', h.snapshot, by simp, hk⟩

/-! ### STUCK_LIMIT and RECOVERY (R53, R54) -/

theorem exec_stuckLimit {s : State} (l : Line) (htracks : s.tracks = true) (hcond : s.line.cond ≠ .stuck) :
    ∃ (u : State) (r : Reports), exec (.stuckLimit l) s = .next (u.setReports { r with busStuck := true }) ∧
      u = (if (s.line.frameOpen || s.fe.inFrame) = true then (s.setLine (s.line.toStuck l s.stuckTime)).abandonFrame
        else s.setLine (s.line.toStuck l s.stuckTime)) := by
  refine ⟨_, _, congrArg Host.Outcome.next (if_pos ?_), rfl⟩
  simp [htracks, hcond]

/-- Settles O32: the limit lets the lines go and abandons what the station sends. -/
theorem stuckAndRecoveredLines : Obligations.StuckAndRecoveredLines := by
  intro s htracks
  constructor
  · intro l hcond
    obtain ⟨u, r, hexec, hu⟩ := exec_stuckLimit l htracks hcond
    generalize hl : s.line.toStuck l s.stuckTime = l' at hu
    have hline : u.line = l' := by
      rw [hu]
      split <;> simp
    have hreports (hk : s.keepsAllBut u [.line, .fe, .reports] = true) :
        s.keepsAllBut (u.setReports { r with busStuck := true }) [.line, .fe, .reports] = true :=
      State.keepsAllBut_trans hk (u.keepsAllBut_setReports _) (by simp) (by simp)
    refine ⟨_, hexec, by simp [hline, ← hl, LineIf.toStuck], by simp [hline, ← hl, LineIf.toStuck],
      by simp [hline, ← hl, LineIf.toStuck], by simp [hline, ← hl, LineIf.toStuck], by simp [hline, ← hl, LineIf.toStuck],
      by simp [hline, ← hl, LineIf.toStuck], by simp [hline, ← hl, LineIf.toStuck], by simp, fun hopen => ?_,
      fun htx => ?_, fun htx hfixed => ?_, fun item rest htx hq hin => ?_⟩
    · rw [hu, if_pos (by simp [hopen])]
      simp
    · refine hreports ?_
      rw [hu, State.abandonFrame_silent (by simpa using htx)]
      split
      · exact s.setLine_leaveFrame_keeps _
      · exact State.keepsAllBut_mono (s.keepsAllBut_setLine l') (by simp)
    · refine hreports ?_
      rw [hu, if_pos (by simp [FrameEngine.inFrame, htx]), State.abandonFrame_fixed (by simpa using htx) (by simpa using hfixed)]
      exact s.setLine_rest_leaveFrame_keeps _
    · have hopen := FrameEngine.outcomeOpen_of htx
      rw [if_pos (by simp [FrameEngine.inFrame_of_outcomeOpen hopen])] at hu
      have h : AttemptAtRest s item rest (u.setReports { r with busStuck := true }) := by
        rw [hu]
        exact (State.abandonFrame_counts (s := s.setLine l') hopen hq hin).of_setLine.setReports _
      exact ⟨h.snapshot, h.waiting, fun hn => ⟨h.counted.publish hn, h.counted.other hn, h.counted.kept hn⟩⟩
  · intro hcond
    refine ⟨_, congrArg Host.Outcome.next (if_pos (by simp [htracks, hcond])), rfl, rfl, rfl, rfl, ?_⟩
    simp [State.keepsAllBut, Block.all, Block.agrees]

/-! ### OPENING_MARK and END_MARK (R46, R47) -/

/-- R44: a low of BDA breaks the counts of both lines high. -/
theorem LineIf.lowOn_bda (l : LineIf) : (l.lowOn .bda).bda = false ∧ (l.lowOn .bda).quiet = 0 ∧
    (l.lowOn .bda).recovery = 0 := by
  have h : (l.lowOn .bda).bda = false := by
    cases hd : l.driveBda <;> simp [LineIf.lowOn, LineIf.bda, hd]
  refine ⟨h, ?_, ?_⟩
  · exact if_neg fun hc => by simp_all [LineIf.lowOn]
  · exact if_neg fun hc => by simp_all [LineIf.lowOn]

theorem exec_openingMark_opens {s : State} (htracks : s.tracks = true) (hbck : s.line.bck = true)
    (htakes : s.line.takesOpening = true) : exec .openingMark s = .next s.openFrame := by
  refine congrArg Host.Outcome.next ?_
  simp [htracks, hbck, htakes]

theorem exec_openingMark_low {s : State} (htracks : s.tracks = true) (hbck : s.line.bck = true)
    (htakes : s.line.takesOpening = false) : exec .openingMark s = .next (s.setLine (s.line.lowOn .bda)) := by
  refine congrArg Host.Outcome.next ?_
  simp [htracks, hbck, htakes]

theorem exec_openingMark_data {s : State} (htracks : s.tracks = true) (hbck : s.line.bck = false)
    (hcond : s.line.cond ≠ .idle) : exec .openingMark s = .next (s.setLine (s.line.lowOn .bda)) := by
  refine congrArg Host.Outcome.next ?_
  simp [htracks, hbck, LineIf.dataFall, hcond]

theorem exec_endMark_data {s : State} (htracks : s.tracks = true) (hbck : s.line.bck = false) :
    exec .endMark s = .next (s.setLine ({ s.line with othersBda := true } : LineIf).read) := by
  refine (execEndMark_eq s).trans (congrArg Host.Outcome.next ?_)
  simp [htracks, hbck]

/-- R47: BDA rises when the others let it go and this station pulls it no more, its closing bit's release apart. -/
theorem LineIf.bdaRise_high {l : LineIf} (h : l.placing = some true ∨ (l.placing = none ∧ l.driveBda = false)) :
    l.bdaRise.bda = true := by
  rcases h with h | ⟨h, hd⟩
  · simp [LineIf.bdaRise, LineIf.settle, h]
  · simp [LineIf.bdaRise, LineIf.settle, h, LineIf.bda, hd]

theorem exec_endMark_ends {s : State} (htracks : s.tracks = true) (hopen : s.line.frameOpen = true)
    (hbck : s.line.bck = true) (hbda : s.line.bdaRise.bda = true) : exec .endMark s =
      .next (s.setLine (s.line.ended (s.fe.role == .transmitter))).partAtEnd.leaveFrame := by
  refine (execEndMark_eq s).trans (congrArg Host.Outcome.next ?_)
  simp [htracks, hopen, hbck, hbda]

theorem State.partAtEnd_silent {s : State} (h : s.fe.tx = .idle ∨ s.fe.tx = .waiting) : s.partAtEnd = s := by
  rcases h with h | h <;> simp [State.partAtEnd, h]

theorem State.partAtEnd_fixed {s : State} (htx : s.fe.tx = .voting) (hfixed : s.fe.outcomeFixed = true) :
    s.partAtEnd = s.rest := by
  simp [State.partAtEnd, htx, hfixed]

theorem State.partAtEnd_open {s : State} (h : s.fe.tx = .contending ∨ s.fe.tx = .sending ∨
    (s.fe.tx = .voting ∧ s.fe.outcomeFixed = false)) : s.partAtEnd = s.endForeign := by
  rcases h with h | h | ⟨h, hfixed⟩ <;> simp [State.partAtEnd, *]

theorem State.partAtEnd_lost {s : State} (h : s.fe.tx = .lostLate) : s.partAtEnd = s.endLateLoss := by
  simp [State.partAtEnd, h]

@[simp] theorem State.rest_hasPart (s : State) : s.rest.hasPart = s.hasPart := by
  simp [State.hasPart, State.onBus]

/-- Log entry 14: at an end mark before the outcome the head is WAITING again. -/
theorem State.endForeign_head {s : State} {item : SendItem} {rest : List SendItem} (hq : s.sendQ = item :: rest)
    (hin : item.inFlight = true) : s.endForeign.sendQ = { item with inFlight := false } :: rest ∧
      s.endForeign.fe.tx = .waiting ∧ s.endForeign.fe.snapshot = none := by
  simp [State.endForeign, State.returnItem_head hq hin, State.rest]

/-- R46, R79: what the opening of a frame sets. -/
theorem State.openFrame_opens (s : State) : s.openFrame.line.frameOpen = true ∧ s.openFrame.line.cond = .frame ∧
    s.openFrame.line.right = false ∧ s.openFrame.line.bda = false := by
  exact ⟨rfl, rfl, rfl, s.line.lowOn_bda.1⟩

/-- Settles O30: with BCK high BDA's fall opens and its rise ends a frame, by what the transmit machine is in. -/
theorem marksOpenAndEndAFrame : Obligations.MarksOpenAndEndAFrame := by
  refine ⟨fun s htracks hbck => ⟨fun hopen hseen hcond => ?_, fun hno => ?_⟩, fun s htracks hbck hcond c hc => ?_,
    fun s htracks hopen hbck hbda => ?_⟩
  · refine ⟨_, exec_openingMark_opens htracks hbck (by simp [LineIf.takesOpening, hopen, hseen, hcond]), ?_⟩
    obtain ⟨h1, h2, h3, h4⟩ := s.openFrame_opens
    exact ⟨h1, h2, h3, h4, rfl, rfl, rfl, rfl, rfl, rfl, rfl, by simp [State.keepsAllBut, Block.all, Block.agrees]⟩
  · have htakes : s.line.takesOpening = false := by
      rcases hno with h | h | h <;> simp [LineIf.takesOpening, h]
    obtain ⟨h1, h2, h3⟩ := s.line.lowOn_bda
    exact ⟨_, exec_openingMark_low htracks hbck htakes, rfl, rfl, h2, h3, h1, by simp⟩
  · obtain rfl | rfl : c = .openingMark ∨ c = .endMark := by simpa using hc
    · exact ⟨_, exec_openingMark_data htracks hbck hcond, rfl, rfl, by simp⟩
    · exact ⟨_, exec_endMark_data htracks hbck, rfl, rfl, by simp⟩
  · refine ⟨_, exec_endMark_ends htracks hopen hbck (LineIf.bdaRise_high hbda), ?_⟩
    generalize hl : s.line.ended (s.fe.role == .transmitter) = l
    have hline : (s.setLine l).partAtEnd.leaveFrame.line = l := by simp
    rw [hline]
    refine ⟨by simp [← hl, LineIf.ended], ?_, by simp [← hl, LineIf.ended], by simp [← hl, LineIf.ended],
      by simp [← hl, LineIf.ended], ?_, by simp, by simp, fun htx => ?_, fun item rest htx hq hin => ?_,
      fun item rest hlost hgood hq hin hn => ?_⟩
    · simp [← hl, LineIf.ended, LineIf.othersHigh]
    · simp [← hl, LineIf.ended, LineIf.othersHigh, LineIf.bda]
    · obtain hsilent | ⟨htx, hfixed⟩ := or_assoc.2 htx
      · have hvoting : s.fe.tx ≠ .voting := by rcases hsilent with h | h <;> simp [h]
        rw [State.partAtEnd_silent (s := s.setLine l) hsilent, State.leaveFrame_reports]
        exact ⟨fun h => absurd h hvoting, by simp, by simp, s.setLine_leaveFrame_keeps l⟩
      · rw [State.partAtEnd_fixed (s := s.setLine l) htx hfixed, State.leaveFrame_reports]
        exact ⟨by simp [State.rest], by simp [htx], by simp, s.setLine_rest_leaveFrame_keeps l⟩
    · rw [State.partAtEnd_open (s := s.setLine l) htx]
      obtain ⟨hq', htx', hf'⟩ := State.endForeign_head (s := s.setLine l) hq hin
      exact ⟨by simpa using hq', by simpa using htx', by simpa using hf',
        by simp [State.keepsAllBut, Block.all, Block.agrees]⟩
    · rw [State.partAtEnd_lost (s := s.setLine l) hlost, State.endLateLoss_unconfirmed (by simpa using hgood)]
      have h := (State.lossNotConfirmed_counts (s := s.setLine l) hq hin).of_setLine.leaveFrame
      obtain ⟨hq', htx', hk⟩ := h.waiting hn
      exact ⟨hq', htx', h.snapshot, by simp, hk⟩

end Sys2Proof.Machine
end

section
/-! SUPPORT, SETTLES O33, O34. A fall of BCK in an open frame, at a transmitter and at a receiver. -/

namespace Sys2Proof.Machine

/-! ### The fall (R42, R49) -/

/-- The lines at a fall of BCK that begins a position. -/
def LineIf.fallen (l : LineIf) : LineIf :=
  { (l.lowOn .bck) with bckLow := 0 }

@[simp] theorem LineIf.fallen_kept (l : LineIf) : l.fallen.driveBck = l.driveBck ∧ l.fallen.driveBda = l.driveBda ∧
    l.fallen.placing = l.placing ∧ l.fallen.hold = l.hold ∧ l.fallen.frameOpen = l.frameOpen :=
  ⟨rfl, rfl, rfl, rfl, rfl⟩

/-- R39: BCK is low after the fall, and another station's pull shows while this one does not pull. -/
theorem LineIf.fallen_low (l : LineIf) : l.fallen.bck = false ∧ (l.driveBck = false → l.fallen.othersBck = false) := by
  constructor
  · cases hd : l.driveBck <;> simp [LineIf.fallen, LineIf.lowOn, LineIf.bck, hd]
  · intro hd
    simp [LineIf.fallen, LineIf.lowOn, hd]

theorem exec_bckFall_inFrame {s : State} (htracks : s.tracks = true) (hopen : s.line.frameOpen = true)
    (hfall : s.line.bck = true ∨ s.line.bckSeen = true) :
    exec .bckFall s = .next (s.setLine s.line.fallen).fallInFrame := by
  have hown : s.takeOwnOpening = s := by simp [State.takeOwnOpening, State.ownOpeningDue, hopen]
  have hnew : (!s.line.bck && !s.line.bckSeen) = false := by rcases hfall with h | h <;> simp [h]
  refine congrArg Host.Outcome.next ?_
  simp only [htracks, hnew, hown, Bool.not_true, Bool.false_eq_true, if_false]
  exact if_pos hopen

section Fall
variable {s : State}

theorem State.fallInFrame_discard (hrx : s.fe.rx = .discard) : s.fallInFrame = s := by
  simp [State.fallInFrame, hrx]

/-- R84: a fall beyond the closing bit of the length fixed. -/
theorem State.fallInFrame_beyond (hdiscard : s.fe.rx ≠ .discard) (hhunt : s.fe.rx ≠ .hunt) {len : Nat}
    (hlen : s.fe.buf.bodyLen = some len) (hn : 62 + len < s.fe.buf.bits.length + 1) :
    s.fallInFrame = s.discardFrame := by
  have hbeyond : (s.fe.buf.bodyLen.any fun len => decide (62 + len < s.fe.buf.count + 1)) = true := by
    rw [hlen]
    exact decide_eq_true hn
  simp only [State.fallInFrame, hbeyond, if_true]

theorem State.fallInFrame_within (hdiscard : s.fe.rx ≠ .discard) (hhunt : s.fe.rx ≠ .hunt)
    (hn : ∀ len, s.fe.buf.bodyLen = some len → s.fe.buf.bits.length + 1 ≤ 62 + len) :
    s.fallInFrame = if s.fe.role = .transmitter then s.fallAsTransmitter
      else if s.fe.role = .receiver && s.onBus then s.fallAsReceiver (s.fe.buf.bits.length + 1) else s := by
  have hbeyond : (s.fe.buf.bodyLen.any fun len => decide (62 + len < s.fe.buf.count + 1)) = false := by
    cases hlen : s.fe.buf.bodyLen with
    | none => rfl
    | some len => simpa [RxBuffer.count] using hn len hlen
  simp only [State.fallInFrame, hbeyond]
  rfl

/-- R90: beyond the closing bit the part ends. -/
theorem State.discardFrame_reports (s : State) :
    s.discardFrame.reports = { s.reports with partEnded := s.reports.partEnded || s.hasPart } := by
  cases h : s.hasPart <;> simp [State.discardFrame, State.reportPartEnded, h]

theorem State.setLine_discardFrame_keeps (s : State) (l : LineIf) :
    s.keepsAllBut (s.setLine l).discardFrame [.line, .fe, .reports] = true := by
  simp [State.keepsAllBut, Block.all, Block.agrees]

/-! ### The transmitter (R42, R43, R47) -/

theorem State.placedBit_of_transmitter {f : Snapshot} (hrole : s.fe.role = .transmitter) (hf : s.fe.snapshot = some f)
    (hn : s.fe.buf.bits.length + 1 ≤ 62 + f.body.length) :
    s.placedBit = some (f.bitAt (s.fe.buf.bits.length + 1)) := by
  simp only [State.placedBit, RxBuffer.count, hrole, hf, hn, if_true, Option.bind_some]

theorem exec_clockHalfEnd (htracks : s.tracks = true) (hopen : s.line.frameOpen = true)
    (hrole : s.fe.role = .transmitter) (htimer : s.line.halfTimer.isSome = true) : exec .clockHalfEnd s =
      .next (s.setLine { s.line.setDriveBck (s.line.phase != .low) with phase := .none, halfTimer := none }) := by
  refine congrArg Host.Outcome.next (if_pos ?_)
  simp [htracks, hopen, hrole, htimer]

end Fall

/-- Settles O33: through its closing bit a transmitter follows the fall; beyond it its part ends. -/
theorem transmitterClocksTheLine : Obligations.TransmitterClocksTheLine := by
  intro s f htracks hopen hrole hf
  refine ⟨fun hfall hdiscard hhunt hn hlen => ?_, fun len hfall hdiscard hhunt hlen hn => ?_, fun htimer => ?_⟩
  · have hfell : (s.setLine s.line.fallen).fallInFrame = (s.setLine s.line.fallen).fallAsTransmitter :=
      (State.fallInFrame_within (s := s.setLine s.line.fallen) hdiscard hhunt hlen).trans (if_pos hrole)
    refine ⟨_, (exec_bckFall_inFrame htracks hopen hfall).trans (congrArg _ hfell), ?_, rfl, rfl, rfl, ?_, ?_⟩
    · simp [State.fallAsTransmitter, LineIf.bck]
    · simpa [State.fallAsTransmitter] using State.placedBit_of_transmitter hrole hf hn
    · simp [State.keepsAllBut, Block.all, Block.agrees]
  · have hfell := State.fallInFrame_beyond (s := s.setLine s.line.fallen) hdiscard hhunt hlen hn
    refine ⟨_, (exec_bckFall_inFrame htracks hopen hfall).trans (congrArg _ hfell), by simp, by simpa using hrole,
      by simp, by simp, ?_, s.setLine_discardFrame_keeps _⟩
    have hpart : s.hasPart = s.onBus := by
      simp [State.hasPart, hrole, bne_iff_ne.2 hdiscard, show (Role.transmitter != Role.none) = true from rfl]
    rw [State.discardFrame_reports]
    simp [hpart]
  · refine ⟨_, exec_clockHalfEnd htracks hopen hrole htimer, by simp, fun hp => ?_, fun hp => ?_, by simp, by simp, by simp⟩
    · simp [LineIf.bck, hp]
    · simp [LineIf.bck, hp]

/-! ### The receiver (R48, R49, R81 to R84) -/

section Receiver
variable {s : State}

theorem State.fallAsReceiver_lookup (hkind : s.fe.buf.kind? = some .publish) :
    s.fallAsReceiver 35 = s.setLine { s.line.setDriveBck true with hold := .lookup } := by
  simp [State.fallAsReceiver, hkind]

theorem State.fallAsReceiver_decision {len : Nat} (hlen : s.fe.buf.bodyLen = some len) :
    s.fallAsReceiver (59 + len) = (s.setFe { s.fe with deciding := true }).setLine
      { s.line.setDriveBck s.willVote with hold := if s.willVote then .decision else .none } := by
  have h35 : 59 + len ≠ 35 := by omega
  simp [State.fallAsReceiver, hlen, h35]

theorem State.fallAsReceiver_elsewhere {n : Nat} (hlookup : n = 35 → s.fe.buf.kind? ≠ some .publish)
    (hdecision : ∀ len, s.fe.buf.bodyLen = some len → n ≠ 59 + len) :
    s.fallAsReceiver n = s.setLine { s.line with placing := s.nextLevel } := by
  have h1 : (decide (n = 35) && s.fe.buf.kind? == some .publish) = false := by
    by_cases hn : n = 35 <;> simp_all
  have h2 : s.fe.buf.bodyLen.map (59 + ·) ≠ some n := by
    intro hc
    obtain ⟨len, hlen, rfl⟩ := Option.map_eq_some_iff.1 hc
    exact hdecision len hlen rfl
  simp [State.fallAsReceiver, h1, h2]

/-- R81: a PUBLISH frame names no sender, and is voted on. -/
theorem State.willVote_publish {f : PublishContent} (hc : s.fe.buf.content = some (.publish f)) : s.willVote = true := by
  simp [State.willVote, hc, FrameContent.sender?]

/-- R76, R83: no vote on a well-formed frame of the own ID with a good check code, nor at a confirmed late loss. -/
theorem State.willVote_sender {c : FrameContent} {sender : StationId} (hc : s.fe.buf.content = some c)
    (hsender : c.sender? = some sender) : s.willVote =
      !(s.fe.buf.good == some true && ((c.wellFormed && sender == s.control.ownId) || s.fe.tx == .lostLate)) := by
  simp only [State.willVote, hc, hsender, FrameEngine.lossConfirmed]
  have hbool : ∀ good formed own lost : Bool,
      (!(good && formed && own) && !(lost && good)) = !(good && (formed && own || lost)) := by decide
  exact hbool _ _ _ _

/-- R48: a station that does not transmit places nothing outside its vote. -/
theorem State.nextLevel_none (hrole : s.fe.role ≠ .transmitter) (h : s.fe.rx ≠ .vote ∨ s.fe.vote = none) :
    s.nextLevel = none := by
  cases hr : s.fe.role with
  | none => simp [State.nextLevel, hr]
  | transmitter => exact absurd hr hrole
  | receiver =>
    simp only [State.nextLevel, hr]
    rcases h with h | h
    · cases hrx : s.fe.rx <;> simp_all
    · rw [h]
      cases s.fe.rx <;> rfl

theorem State.nextLevel_receiver_vote (hrole : s.fe.role = .receiver) {vote : Vote} {len : Nat} (hrx : s.fe.rx = .vote)
    (hvote : s.fe.vote = some vote) (hlen : s.fe.buf.bodyLen = some len) :
    s.nextLevel = some (voteLevel vote len (s.fe.buf.bits.length + 1)) := by
  simp [State.nextLevel, hrole, hrx, hvote, hlen, RxBuffer.count]

/-- R48: behind the ACCEPT slot a 0 is placed in the slot of a RETRY or a REJECT alone. -/
theorem voteLevel_behind_accept {vote : Vote} {len n : Nat} (hn : 59 + len < n) : voteLevel vote len n =
    (if (vote = .retry ∧ n = 60 + len) ∨ (vote = .reject ∧ n = 61 + len) then false else true) := by
  have h59 : n ≠ 59 + len := by omega
  cases vote
  · simp [voteLevel, h59]
  · by_cases h : n = 60 + len <;> simp [voteLevel, h]
  · by_cases h : n = 61 + len <;> simp [voteLevel, h]

end Receiver

/-- Settles O34: the position that the fall begins says what the receiver does. -/
theorem receiverHoldsAtItsPoints : Obligations.ReceiverHoldsAtItsPoints := by
  intro s hbus hopen hrole hfall
  have hexec := exec_bckFall_inFrame (State.tracks_of_onBus hbus) hopen hfall
  obtain ⟨hlow, hothers⟩ := s.line.fallen_low
  refine ⟨fun hrx => ?_, fun hdiscard hhunt => ?_⟩
  · rw [State.fallInFrame_discard (s := s.setLine s.line.fallen) hrx] at hexec
    exact ⟨_, hexec, rfl, rfl, by simp⟩
  have hreceives (hn : ∀ len, s.fe.buf.bodyLen = some len → s.fe.buf.bits.length + 1 ≤ 62 + len) :
      exec .bckFall s = .next ((s.setLine s.line.fallen).fallAsReceiver (s.fe.buf.bits.length + 1)) := by
    rw [hexec, State.fallInFrame_within (s := s.setLine s.line.fallen) hdiscard hhunt hn]
    simp [hrole, hbus]
  have hdecides {len : Nat} (hlen : s.fe.buf.bodyLen = some len) (hn : s.fe.buf.bits.length = 58 + len) :
      exec .bckFall s = .next (((s.setLine s.line.fallen).setFe { s.fe with deciding := true }).setLine
        { s.line.fallen.setDriveBck s.willVote with hold := if s.willVote then .decision else .none }) := by
    rw [hreceives fun len' hlen' => by rw [hlen] at hlen'; cases hlen'; omega, hn, show 58 + len + 1 = 59 + len by omega,
      State.fallAsReceiver_decision (s := s.setLine s.line.fallen) hlen]
    rfl
  refine ⟨fun h hh hkind hn hlen => ?_, fun f len hc hlen hn => ?_, fun c sender len hc hsender hlen hn => ?_,
    fun hlookup hlen => ?_, fun len hlen hn => ?_⟩
  · have hfell := hreceives (by simp [hlen])
    rw [hn, State.fallAsReceiver_lookup (s := s.setLine s.line.fallen) (by simp [RxBuffer.kind?, hh, hkind])] at hfell
    exact ⟨_, hfell, by simp [LineIf.bck], by simp, by simp, by simp⟩
  · refine ⟨_, hdecides hlen hn, ?_⟩
    rw [State.willVote_publish hc]
    exact ⟨by simp [LineIf.bck], by simp, by simp, by simp, by simp [State.keepsAllBut, Block.all, Block.agrees]⟩
  · intro votes
    refine ⟨_, hdecides hlen hn, ?_⟩
    rw [State.willVote_sender hc hsender]
    refine ⟨by simp [votes], fun h => ?_, by simp [votes], by simp, by simp [State.keepsAllBut, Block.all, Block.agrees]⟩
    rcases h with h | h
    · simp only [votes] at h
      simp [LineIf.bck, h]
    · simp [LineIf.bck, hothers h]
  · have hfell := hreceives fun len hl => (hlen len hl).1
    rw [State.fallAsReceiver_elsewhere (s := s.setLine s.line.fallen) (fun hn => hlookup (by omega))
      fun len hl => (hlen len hl).2] at hfell
    refine ⟨_, hfell, hlow, rfl, rfl, by simp, fun h => State.nextLevel_none (s := s) (by simp [hrole]) h, ?_⟩
    intro vote len hrx hvote hl hn
    rw [← voteLevel_behind_accept hn]
    exact State.nextLevel_receiver_vote (s := s) hrole hrx hvote hl
  · rw [State.fallInFrame_beyond (s := s.setLine s.line.fallen) hdiscard hhunt hlen hn] at hexec
    exact ⟨_, hexec, by simp, by simp, s.setLine_discardFrame_keeps _⟩

end Sys2Proof.Machine
end

section
/-! SUPPORT, SETTLES O27, O28, O54. The idle bus, the right to open, and the entries to START. -/

namespace Sys2Proof.Machine

/-! ### QUIET_GAP and IDLE_LOST (R44, R51) -/

theorem LineIf.lowOn_bck (l : LineIf) : (l.lowOn .bck).bck = false ∧ (l.lowOn .bck).quiet = 0 := by
  have h : (l.lowOn .bck).bck = false := l.fallen_low.1
  refine ⟨h, if_neg fun hc => ?_⟩
  simp_all [LineIf.lowOn]

theorem exec_quietGap {s : State} (htracks : s.tracks = true) (hopen : s.line.frameOpen = false)
    (hcond : s.line.cond = .frame ∨ s.line.cond = .held) : exec .quietGap s = .next
      (if s.line.released then s.setLine { s.line.othersHigh with
        cond := .idle, seenIdle := true, quiet := max s.line.othersHigh.quiet s.quietGapTime } else s) := by
  have hc : (s.line.cond == .frame || s.line.cond == .held) = true := by simpa using hcond
  refine congrArg Host.Outcome.next ?_
  cases s.line.released <;> simp [htracks, hopen, hc]

theorem exec_idleLost {s : State} (l : Line) (htracks : s.tracks = true) (hcond : s.line.cond = .idle) :
    exec (.idleLost l) s = .next (s.setLine (s.line.lowOn l).loseIdle) := by
  refine congrArg Host.Outcome.next (if_pos ?_)
  simp [htracks, hcond]

/-- Settles O27: the two commands change the Line Interface alone. -/
theorem idleComesAndGoes : Obligations.IdleComesAndGoes := by
  refine ⟨fun s htracks hopen hcond => ⟨fun hdriven => ?_, fun hbck hbda => ?_⟩, fun s l htracks hcond => ?_⟩
  · have hr : s.line.released = false := by rcases hdriven with h | h <;> simp [LineIf.released, h]
    rw [exec_quietGap htracks hopen hcond, hr]
    rfl
  · have hr : s.line.released = true := by simp [LineIf.released, hbck, hbda]
    have hexec := exec_quietGap htracks hopen hcond
    rw [if_pos hr] at hexec
    refine ⟨_, hexec, rfl, rfl, ?_, ?_, hopen, rfl, rfl, le_max_right _ _, by simp⟩
    · simp [LineIf.bck, LineIf.othersHigh, hbck]
    · simp [LineIf.bda, LineIf.othersHigh, hbda]
  · refine ⟨_, exec_idleLost l htracks hcond, rfl, rfl, rfl, ?_⟩
    cases l with
    | bck =>
      obtain ⟨hlow, hquiet⟩ := s.line.lowOn_bck
      exact ⟨hquiet, rfl, rfl, fun _ => hlow, nofun, by simp⟩
    | bda =>
      obtain ⟨hlow, hquiet, -⟩ := s.line.lowOn_bda
      exact ⟨hquiet, rfl, rfl, nofun, fun _ => hlow, by simp⟩

/-! ### RIGHT_TO_OPEN (R45, R71) -/

/-- The lines when the right to open is given. -/
def State.lineWithRight (s : State) : LineIf :=
  { s.line.othersHigh with right := true, quiet := max s.line.othersHigh.quiet s.openTime }

theorem exec_rightToOpen {s : State} (hbus : s.onBus = true) (hcond : s.line.cond = .idle) (hbck : s.line.driveBck = false)
    (hbda : s.line.driveBda = false) : exec .rightToOpen s = .next
      (if s.fe.tx = .waiting then (s.setLine s.lineWithRight).openHead else s.setLine s.lineWithRight) := by
  refine congrArg Host.Outcome.next (if_pos ?_)
  simp [hbus, hcond, LineIf.released, hbck, hbda]

/-- R71: what the opening of the head's frame sets. -/
theorem State.launch_opens (s : State) (item : SendItem) (rest : List SendItem) (f : Snapshot) :
    (s.launch item rest f).sendQ = { item with inFlight := true } :: rest ∧
      (s.launch item rest f).fe.tx = .contending ∧ (s.launch item rest f).fe.role = .transmitter ∧
      (s.launch item rest f).fe.snapshot = some f ∧ (s.launch item rest f).line.driveBda = true ∧
      (s.launch item rest f).line.right = false ∧ s.keepsAllBut (s.launch item rest f) [.line, .fe, .sendQ] = true := by
  refine ⟨rfl, rfl, rfl, rfl, rfl, rfl, ?_⟩
  simp [State.keepsAllBut, Block.all, Block.agrees]

theorem State.openHead_publish {s : State} {tag : Tag} {again : Bool} {n : Nat} {rest : List SendItem} {e : Entry}
    (hq : s.sendQ = ⟨.publish tag again, false, n⟩ :: rest) (he : s.table.find tag = some e) :
    s.openHead = s.launch ⟨.publish tag false, false, n⟩ rest (publishSnapshot e) := by
  simp [State.openHead, State.openItem, hq, he, Payload.kind]

theorem State.openHead_beacon {s : State} {n : Nat} {rest : List SendItem} (hq : s.sendQ = ⟨.beacon, false, n⟩ :: rest) :
    s.openHead = s.launch ⟨.beacon, false, n⟩ rest (beaconSnapshot s.control.ownId s.sync.ownIncarnation
      ((s.control.config.map (·.period)).getD 0#8) (s.control.link == .joining) s.table.count s.table.summary) := by
  simp [State.openHead, State.openItem, hq, Payload.kind]

/-- Settles O28: without an item the right stands, and a head is launched with what the table or the figures hold. -/
theorem rightToOpenSendsTheHead : Obligations.RightToOpenSendsTheHead := by
  intro s hbus hcond hbck hbda
  have hexec := exec_rightToOpen hbus hcond hbck hbda
  refine ⟨fun htx => ?_, fun tag again n rest e htx hq he => ?_, fun n rest cfg htx hq hcfg => ?_⟩
  · rw [if_neg (by simp [htx])] at hexec
    exact ⟨_, hexec, rfl, hbda, by simp⟩
  · rw [if_pos htx, State.openHead_publish (s := s.setLine s.lineWithRight) hq he] at hexec
    obtain ⟨hq', htx', hrole, hf, hlow, hright, hk⟩ := (s.setLine s.lineWithRight).launch_opens
      ⟨.publish tag false, false, n⟩ rest (publishSnapshot e)
    refine ⟨_, hexec, hq', htx', hrole, hf.trans ?_, hlow, hright,
      State.keepsAllBut_trans (s.keepsAllBut_setLine _) hk (by simp) (by simp)⟩
    rw [publishSnapshot, RecordTable.find_tag he]
  · rw [if_pos htx, State.openHead_beacon (s := s.setLine s.lineWithRight) hq] at hexec
    obtain ⟨hq', htx', hrole, hf, hlow, hright, hk⟩ := (s.setLine s.lineWithRight).launch_opens
      ⟨.beacon, false, n⟩ rest (beaconSnapshot s.control.ownId s.sync.ownIncarnation
        ((s.control.config.map (·.period)).getD 0#8) (s.control.link == .joining) s.table.count s.table.summary)
    refine ⟨_, hexec, hq', htx', hrole, hf.trans ?_, hlow, hright,
      State.keepsAllBut_trans (s.keepsAllBut_setLine _) hk (by simp) (by simp)⟩
    simp [beaconSnapshot, RecordTable.count, Control.ownId, hcfg]

/-! ### POWER_UP and RESET (R157) -/

/-- R157: an entry to START from `s`, for every block; what becomes of the write engine's operation is left open. -/
structure EntersStart (s : State) (cause : StartCause) (t : State) : Prop where
  control : t.control = { s.control with
    link := .start, returnState := .none, cause := cause, watch := watchOf s.pfailPin, filter := 0, quiesceWaiting := false }
  line : t.line = s.line.restart
  fe : t.fe = .initial
  sendQ : t.sendQ = []
  sync : t.sync = .initial s.sync.ownIncarnation
  commitQ : t.store.commitQ = []
  request : t.store.request = none
  repaired : t.store.repaired = false
  port : ∃ p : HostPort, t.port = p.atStart

theorem State.enterStart_enters (s : State) (cause : StartCause) : EntersStart s cause (s.enterStart cause) :=
  ⟨rfl, rfl, rfl, rfl, rfl, rfl, rfl, rfl, s.port, rfl⟩

/-- R150: an operation in progress is carried on, its result to be discarded. -/
theorem State.startKeepingOp_enters (s : State) (cause : StartCause) : EntersStart s cause (s.startKeepingOp cause) ∧
    (s.startKeepingOp cause).store.engine.op = s.store.engine.op ∧
    (s.startKeepingOp cause).store.array = s.store.array := by
  obtain ⟨hcontrol, hline, hfe, hsendQ, hsync, hcommitQ, hrequest, hrepaired, hport⟩ := s.enterStart_enters cause
  unfold State.startKeepingOp State.discardOp
  split
  · exact ⟨⟨hcontrol, hline, hfe, hsendQ, hsync, hcommitQ, hrequest, hrepaired, hport⟩, rfl, rfl⟩
  · exact ⟨⟨hcontrol, hline, hfe, hsendQ, hsync, hcommitQ, hrequest, hrepaired, hport⟩, rfl, rfl⟩

/-- R149: an operation cut short leaves the engine free. -/
theorem State.abandonOp_op (s : State) : s.abandonOp.store.engine.op = none := by
  have hcut : s.cutEngine.store.engine.op = none := by
    unfold State.cutEngine
    split
    · assumption
    · rfl
  have hanswered (u : State) (c : ResultCode) (d : List Byte) (h : u.store.engine.op = none) :
      (u.answer c d).store.engine.op = none := by simpa using h
  have hrequest (u : State) (h : u.store.engine.op = none) : (match u.store.request with
      | some _ => (u.setStore { u.store with request := none }).answer .storeFailed []
      | none => u).store.engine.op = none := by
    split
    · exact hanswered (u.setStore _) _ _ h
    · exact h
  unfold State.abandonOp
  refine hrequest _ ?_
  split
  · simpa using hcut
  · exact hanswered _ _ _ hcut
  · exact hanswered (s.cutEngine.setPairMap _) _ _ hcut
  · exact hcut
  · exact hcut

theorem State.startCuttingOp_enters (s : State) :
    EntersStart s .power s.startCuttingOp ∧ s.startCuttingOp.store.engine.op = none := by
  obtain ⟨hcontrol, hline, hfe, hsendQ, hsync, hcommitQ, hrequest, hrepaired, hport⟩ := s.abandonOp.enterStart_enters .power
  exact ⟨⟨hcontrol.trans (by simp), hline.trans (by simp), hfe, hsendQ, hsync.trans (by simp), hcommitQ, hrequest, hrepaired,
    hport⟩, s.abandonOp_op⟩

/-- R181: the port in START. -/
theorem HostPort.atStart_notReady (p : HostPort) : p.atStart.state = .notReady ∧ p.atStart.notices = [] ∧
    p.atStart.attn = false ∧ p.atStart.overrun = false ∧ p.atStart.response = none :=
  ⟨rfl, rfl, rfl, rfl, rfl⟩

/-- Settles O54: both commands enter START; the power-up cuts the engine's operation and the RESET pin lets it go on. -/
theorem powerUpAndResetEnterStart : Obligations.PowerUpAndResetEnterStart := by
  intro s
  refine ⟨?_, ?_, _, rfl, rfl, by simp [State.keepsAllBut, Block.all, Block.agrees]⟩
  · rintro pfail c (rfl | rfl)
    · obtain ⟨h, hop⟩ := State.startCuttingOp_enters { s with pfailPin := pfail }
      obtain ⟨p, hp⟩ := h.port
      refine ⟨_, rfl, ?_⟩
      simp [h.control, h.line, h.fe, h.sendQ, h.sync, h.commitQ, h.request, h.repaired, hp, p.atStart_notReady, hop, watchOf,
        LineIf.restart, SyncUnit.initial]
    · obtain ⟨h, hop, harray⟩ := State.startKeepingOp_enters { s with resetPin := true } .pin
      obtain ⟨p, hp⟩ := h.port
      refine ⟨_, rfl, ?_⟩
      simp [h.control, h.line, h.fe, h.sendQ, h.sync, h.commitQ, h.request, h.repaired, hp, p.atStart_notReady, hop, harray,
        watchOf, LineIf.restart, SyncUnit.initial]
  · cases htaken : Config.shortResetTaken s.free with
    | false =>
      have hexec : exec (.resetAssert false) s = .next (s.useFree 1) :=
        congrArg Host.Outcome.next (if_neg (by simp [htaken]))
      exact ⟨_, hexec, rfl, .inr (by simp [State.keepsAllBut, Block.all, Block.agrees])⟩
    | true =>
      have hexec : exec (.resetAssert false) s =
          .next (State.startKeepingOp { s.useFree 1 with resetPin := true } .pin) :=
        congrArg Host.Outcome.next (if_pos (by simp [htaken]))
      obtain ⟨h, -⟩ := State.startKeepingOp_enters { s.useFree 1 with resetPin := true } .pin
      exact ⟨_, hexec, by simp, .inl ⟨by rw [h.control], by rw [h.control]⟩⟩

end Sys2Proof.Machine
end

section
/-! SUPPORT, SETTLES O35. A rise of BCK in an open frame: the bit taken, and the machines and the clock behind it. -/

namespace Sys2Proof.Machine

/-! ### The level at the rise (R39, R43) -/

theorem exec_bitTaken {s : State} (level : Bool) (htracks : s.tracks = true) (hopen : s.line.frameOpen = true)
    (hhold : s.line.hold ≠ .decision) : exec (.bitTaken level) s = .next (s.riseInFrame level) := by
  refine congrArg Host.Outcome.next ?_
  simp [State.rise, htracks, hopen, hhold]

theorem LineIf.rise_levels (l : LineIf) (level : Bool) :
    (l.rise level).bck = true ∧ (l.rise level).bda = (level && !l.driveBda) ∧ (l.rise level).driveBck = false :=
  ⟨rfl, rfl, rfl⟩

/-- R39: what the station places and what the others leave make the bit. -/
theorem State.bda_of_placed {s : State} {b : Bool} (h : s.nextLevel = some b) (level : Bool) :
    (s.lineAtRise.rise level).bda = (level && b) := by
  simp [State.lineAtRise, h, (LineIf.rise_levels _ level).2.1]

theorem State.bda_of_released {s : State} (h : s.nextLevel = none) (hplacing : s.line.placing = none)
    (hbda : s.line.driveBda = false) (level : Bool) : (s.lineAtRise.rise level).bda = level := by
  simp [State.lineAtRise, LineIf.settle, h, hplacing, hbda, (LineIf.rise_levels _ level).2.1]

/-! ### The receive machine (R79, Table 43) -/

theorem RxBuffer.take_count (b : RxBuffer) (bit : Bool) : (b.take bit).count = b.bits.length + 1 := by
  simp [RxBuffer.count, RxBuffer.take_bits]

theorem FrameEngine.takeBit_following {f : FrameEngine} (hhunt : f.rx ≠ .hunt) (hdiscard : f.rx ≠ .discard) (bit : Bool) :
    f.takeBit bit =
      { f with buf := f.buf.take bit, rx := rxAfter (f.buf.bits.length + 1) (f.buf.take bit).bodyLen } := by
  cases hrx : f.rx <;> simp_all [FrameEngine.takeBit, RxBuffer.count]

theorem rxAfter_header {n : Nat} (h : n < 34) (bodyLen : Option Nat) : rxAfter n bodyLen = .header := by
  simp [rxAfter, h]

theorem rxAfter_some {n : Nat} (h : 34 ≤ n) (len : Nat) :
    rxAfter n (some len) = if n < 42 + len then .body else if n < 58 + len then .check else .vote := by
  simp [rxAfter, Nat.not_lt.2 h]

theorem rxAfter_body {n : Nat} (h : 34 ≤ n) (h' : n < 42) (bodyLen : Option Nat) : rxAfter n bodyLen = .body := by
  cases bodyLen with
  | none => simp [rxAfter, Nat.not_lt.2 h]
  | some len => rw [rxAfter_some h, if_pos (by omega)]

/-! ### The transmit machine and the clock (R42, R47, R72, Table 42) -/

theorem State.advanceTx_silent {s : State} (h : s.fe.tx = .idle ∨ s.fe.tx = .waiting) (placed : Option Bool) (bit : Bool) :
    s.advanceTx placed bit = s := by
  rcases h with h | h <;> simp [State.advanceTx, h]

/-- Table 42: where a transmitter that sends its frame goes on to, with no loss at this rise. -/
def FrameEngine.txMoved (f : FrameEngine) : TxMachine :=
  if f.tx = .contending then (if f.buf.count = 34 then .sending else .contending)
  else if f.buf.checkEnd = some f.buf.count then .voting else .sending

section Sends
variable {s : State} {placed : Option Bool} {bit : Bool}

theorem State.advanceTx_sends (h : s.fe.tx = .contending ∨ s.fe.tx = .sending) (hkept : placed = some true → bit = true) :
    s.advanceTx placed bit = s.setFe { s.fe with tx := s.fe.txMoved } := by
  have hlost : (placed == some true && !bit) = false := by cases bit <;> simp_all
  rcases h with h | h
  all_goals
    simp only [State.advanceTx, FrameEngine.txMoved, h, hlost, Bool.false_eq_true, if_false, if_true, reduceCtorEq]
    split_ifs
    · rfl
    · rw [← h]
      rfl

/-- R85: away from the REJECT slot VOTING goes on. -/
theorem State.advanceTx_voting (h : s.fe.tx = .voting) {len : Nat} (hlen : s.fe.buf.bodyLen = some len)
    (hn : s.fe.buf.count ≠ 61 + len) : s.advanceTx placed bit = s := by
  simp [State.advanceTx, h, hlen, hn.symm]

end Sends

theorem State.clockRise_other {s : State} (h : s.fe.role ≠ .transmitter) : s.clockRise = s := by
  simp [State.clockRise, h]

@[simp] theorem State.clockRise_bck (s : State) : s.clockRise.line.bck = s.line.bck := by
  unfold State.clockRise
  (repeat' split) <;> rfl

section Clock
variable {s : State} {f : Snapshot}

theorem State.clockRise_high (hrole : s.fe.role = .transmitter) (hf : s.fe.snapshot = some f)
    (hn : s.fe.buf.count < 62 + f.body.length) :
    s.clockRise = s.setLine { s.line with phase := .high, halfTimer := some 0 } := by
  simp [State.clockRise, hrole, hf, hn]

theorem State.clockRise_closing (hrole : s.fe.role = .transmitter) (hf : s.fe.snapshot = some f)
    (hn : 62 + f.body.length ≤ s.fe.buf.count) :
    s.clockRise = s.setLine { s.line with phase := .none, halfTimer := none, placing := some true } := by
  simp [State.clockRise, hrole, hf, hn]

end Clock

/-! ### The whole rise -/

/-- The state in which the receive machine has taken a bit at a rise, and the transmit machine and the clock have not moved. -/
def State.withBit (s : State) (l : LineIf) (bit : Bool) : State :=
  (s.setLine l).setFe (s.fe.takeBit bit)

theorem State.riseInFrame_eq {s : State} {level bit : Bool} (hbit : (s.lineAtRise.rise level).bda = bit) :
    s.riseInFrame level = ((s.withBit (s.lineAtRise.rise level) bit).advanceTx s.placedBit bit).clockRise := by
  subst hbit
  rfl

/-- Table 43: the receive machine moves by position. -/
theorem State.riseInFrame_rx {s : State} (level : Bool) (hhunt : s.fe.rx ≠ .hunt) (hdiscard : s.fe.rx ≠ .discard) :
    (s.riseInFrame level).fe.rx = rxAfter (s.fe.buf.bits.length + 1) (s.riseInFrame level).fe.buf.bodyLen := by
  simp [State.riseInFrame, FrameEngine.takeBit_following hhunt hdiscard]

theorem FrameEngine.takeBit_kept (f : FrameEngine) (bit : Bool) :
    (f.takeBit bit).tx = f.tx ∧ (f.takeBit bit).role = f.role := by
  unfold FrameEngine.takeBit
  split <;> exact ⟨rfl, rfl⟩

section Rise
variable {s : State} {level bit : Bool}

/-- A station that sends nothing and does not transmit takes the bit and no more. -/
theorem State.riseInFrame_silent (hrole : s.fe.role ≠ .transmitter) (htx : s.fe.tx = .idle ∨ s.fe.tx = .waiting)
    (hbit : (s.lineAtRise.rise level).bda = bit) :
    s.riseInFrame level = s.withBit (s.lineAtRise.rise level) bit := by
  obtain ⟨htx', hrole'⟩ := s.fe.takeBit_kept bit
  have hsilent : (s.withBit (s.lineAtRise.rise level) bit).fe.tx = .idle ∨
      (s.withBit (s.lineAtRise.rise level) bit).fe.tx = .waiting := by
    show (s.fe.takeBit bit).tx = _ ∨ (s.fe.takeBit bit).tx = _
    rwa [htx']
  rw [State.riseInFrame_eq hbit, State.advanceTx_silent hsilent]
  exact State.clockRise_other (fun hc => hrole (hrole'.symm.trans hc))

theorem State.withBit_keeps (s : State) (l : LineIf) (bit : Bool) : s.keepsAllBut (s.withBit l bit) [.line, .fe] = true := by
  simp [State.withBit, State.keepsAllBut, Block.all, Block.agrees]

theorem State.nextLevel_of_transmitter (hrole : s.fe.role = .transmitter) : s.nextLevel = s.placedBit := by
  simp [State.nextLevel, hrole]

/-- R72: a transmitter that sends its frame, at a rise with no loss: the bit it placed is the bit taken. -/
theorem State.riseInFrame_sends {b : Bool} (hrole : s.fe.role = .transmitter)
    (htx : s.fe.tx = .contending ∨ s.fe.tx = .sending) (hplaced : s.placedBit = some b)
    (hlevel : b = false ∨ level = true) : s.riseInFrame level =
      ((s.withBit (s.lineAtRise.rise level) b).setFe
        { s.fe.takeBit b with tx := (s.fe.takeBit b).txMoved }).clockRise := by
  have hbit : (s.lineAtRise.rise level).bda = b := by
    rw [State.bda_of_placed ((State.nextLevel_of_transmitter hrole).trans hplaced)]
    rcases hlevel with rfl | rfl <;> simp
  have htx' : (s.fe.takeBit b).tx = s.fe.tx := s.fe.takeBit_kept b |>.1
  rw [State.riseInFrame_eq hbit, hplaced, State.advanceTx_sends ?_ (by simp)]
  · rfl
  · show (s.fe.takeBit b).tx = _ ∨ (s.fe.takeBit b).tx = _
    rwa [htx']

/-- R48: a transmitter in VOTING, away from the REJECT slot. -/
theorem State.riseInFrame_votes {b : Bool} {len : Nat} (hrole : s.fe.role = .transmitter) (htx : s.fe.tx = .voting)
    (hrx : s.fe.rx = .vote) (hlen : s.fe.buf.bodyLen = some len) (hlow : 58 + len ≤ s.fe.buf.bits.length)
    (hn : s.fe.buf.bits.length + 1 ≠ 61 + len) (hplaced : s.placedBit = some b) :
    s.riseInFrame level = (s.withBit (s.lineAtRise.rise level) (level && b)).clockRise := by
  have hbit := State.bda_of_placed ((State.nextLevel_of_transmitter hrole).trans hplaced) level
  have hfollow := FrameEngine.takeBit_following (f := s.fe) (by simp [hrx]) (by simp [hrx]) (level && b)
  have hlen' : (s.withBit (s.lineAtRise.rise level) (level && b)).fe.buf.bodyLen = some len := by
    rw [← hlen]
    simpa [State.withBit, hfollow] using RxBuffer.take_bodyLen (by simp only [RxBuffer.count]; omega) _
  rw [State.riseInFrame_eq hbit, State.advanceTx_voting (len := len) ?_ hlen' ?_]
  · simpa [State.withBit, hfollow] using htx
  · simpa [State.withBit, hfollow, RxBuffer.take_count] using hn

section Voting
variable {f : Snapshot} {len : Nat}

/-- R42, R48: in a vote slot before the REJECT slot the level is taken as read, and a high half is timed. -/
theorem State.riseInFrame_slot (hrole : s.fe.role = .transmitter) (htx : s.fe.tx = .voting) (hf : s.fe.snapshot = some f)
    (hbody : f.body.length = len) (hrx : s.fe.rx = .vote) (hlen : s.fe.buf.bodyLen = some len)
    (hlow : 58 + len ≤ s.fe.buf.bits.length) (hn : s.fe.buf.bits.length + 1 < 61 + len) :
    ∃ u, u = s.withBit (s.lineAtRise.rise level) level ∧
      s.riseInFrame level = u.setLine { u.line with phase := .high, halfTimer := some 0 } := by
  have hplaced := s.placedBit_voteSlot hrole hf (by simp only [RxBuffer.count]; omega) (by simp only [RxBuffer.count]; omega)
  have hfollow := FrameEngine.takeBit_following (f := s.fe) (by simp [hrx]) (by simp [hrx]) level
  refine ⟨_, rfl, ?_⟩
  rw [State.riseInFrame_votes hrole htx hrx hlen hlow (by omega) hplaced, Bool.and_true]
  refine State.clockRise_high (f := f) ?_ ?_ ?_
  · simp [State.withBit, hfollow, hrole]
  · simp [State.withBit, hfollow, hf]
  · simp only [State.withBit, hfollow, State.setFe_fe, RxBuffer.take_count]
    omega

theorem Snapshot.bitAt_closing (f : Snapshot) : f.bitAt (62 + f.body.length) = false := by
  simp only [Snapshot.bitAt]
  rw [if_neg (by omega)]
  exact decide_eq_false (by omega)

/-- R47: the closing bit is taken as 0, and BDA is to be let go. -/
theorem State.riseInFrame_closing (hrole : s.fe.role = .transmitter) (htx : s.fe.tx = .voting)
    (hf : s.fe.snapshot = some f) (hbody : f.body.length = len) (hrx : s.fe.rx = .vote)
    (hlen : s.fe.buf.bodyLen = some len) (hn : s.fe.buf.bits.length + 1 = 62 + len) :
    ∃ u, u = s.withBit (s.lineAtRise.rise level) false ∧
      s.riseInFrame level = u.setLine { u.line with phase := .none, halfTimer := none, placing := some true } := by
  have hplaced := State.placedBit_of_transmitter (s := s) hrole hf (by omega)
  rw [hn, ← hbody, f.bitAt_closing] at hplaced
  have hfollow := FrameEngine.takeBit_following (f := s.fe) (by simp [hrx]) (by simp [hrx]) false
  refine ⟨_, rfl, ?_⟩
  rw [State.riseInFrame_votes hrole htx hrx hlen (by omega) (by omega) hplaced, Bool.and_false]
  refine State.clockRise_closing (f := f) ?_ ?_ ?_
  · simp [State.withBit, hfollow, hrole]
  · simp [State.withBit, hfollow, hf]
  · simp only [State.withBit, hfollow, State.setFe_fe, RxBuffer.take_count]
    omega

end Voting

end Rise

/-- Settles O35: the rise takes the bit that the drivers and the others make, and then each machine moves by position. -/
theorem bitIsTakenAtTheRise : Obligations.BitIsTakenAtTheRise := by
  intro s level htracks hopen hhold n
  have hexec := exec_bitTaken level htracks hopen hhold
  refine ⟨fun hrx => ?_, fun len hrx hlen hlow => ?_, fun hrx hrole htx => ?_⟩
  · have hhunt : s.fe.rx ≠ .hunt := by rcases hrx with h | h | h <;> simp [h]
    have hdiscard : s.fe.rx ≠ .discard := by rcases hrx with h | h | h <;> simp [h]
    have hnovote : s.fe.rx ≠ .vote := by rcases hrx with h | h | h <;> simp [h]
    have hmoves := State.riseInFrame_rx (s := s) level hhunt hdiscard
    have hfollow (b : Bool) := FrameEngine.takeBit_following hhunt hdiscard b
    refine ⟨_, hexec, fun hn => hmoves.trans (rxAfter_header hn _), fun h34 h42 => hmoves.trans (rxAfter_body h34 h42 _),
      fun len hl h42 => ?_, fun hrole htx hplacing hbda => ?_, fun f hrole htx hf hn hlevel => ?_⟩
    · rw [hmoves, hl, rxAfter_some (by omega)]
    · have hbit := State.bda_of_released (State.nextLevel_none hrole (.inl hnovote)) hplacing hbda level
      rw [State.riseInFrame_silent hrole htx hbit]
      exact ⟨by simp [State.withBit, hfollow, RxBuffer.take_bits], rfl, hbit, by simp [State.withBit, hfollow],
        by simp [State.withBit, hfollow], s.withBit_keeps _ _⟩
    · rw [State.riseInFrame_sends hrole htx (State.placedBit_of_transmitter hrole hf hn) hlevel]
      have hfe := hfollow (f.bitAt n)
      generalize s.fe.takeBit (f.bitAt n) = e at hfe ⊢
      have hcount : e.buf.count = n := by simp [hfe, RxBuffer.take_count, n]
      have htx' : e.tx = s.fe.tx := by rw [hfe]
      refine ⟨by simp [hfe, RxBuffer.take_bits], by simp [State.withBit, LineIf.rise_levels], by simp [hfe, hrole],
        by simp [hfe, hf], fun h => ?_, fun h hend => ?_, fun h hend => ?_, fun hshort => ?_, ?_⟩
      · simp [FrameEngine.txMoved, htx', h, hcount]
      · obtain ⟨len, hl, hn'⟩ := hend
        have hl' : e.buf.bodyLen = some len := by simpa using hl
        simp [FrameEngine.txMoved, htx', h, hcount, RxBuffer.checkEnd, hl', hn']
      · have hend' : e.buf.checkEnd ≠ some n := by
          intro hc
          obtain ⟨len, hl, hn'⟩ := Option.map_eq_some_iff.1 hc
          exact hend len (by simpa using hl) hn'.symm
        simp [FrameEngine.txMoved, htx', h, hcount, hend']
      · rw [State.clockRise_high (f := f) (by simp [hfe, hrole]) (by simp [hfe, hf]) (by simpa [hcount] using hshort)]
        exact ⟨rfl, rfl⟩
      · simp [State.withBit, State.keepsAllBut, Block.all, Block.agrees]
  · have hfollow (b : Bool) := FrameEngine.takeBit_following (f := s.fe) (by simp [hrx]) (by simp [hrx]) b
    have hvote (b : Bool) : (s.fe.takeBit b).rx = .vote := by
      rw [hfollow]
      show rxAfter n _ = _
      rw [RxBuffer.take_bodyLen (by simp only [RxBuffer.count]; omega), hlen, rxAfter_some (by omega), if_neg (by omega),
        if_neg (by omega)]
    have hbits (b : Bool) : (s.fe.takeBit b).buf.bits = s.fe.buf.bits ++ [b] := by
      rw [hfollow]
      rfl
    have hclocked (b : Bool) (l : LineIf) :
        s.keepsAllBut ((s.withBit (s.lineAtRise.rise level) b).setLine l) [.line, .fe] = true :=
      State.keepsAllBut_trans (s.withBit_keeps _ _) (State.keepsAllBut_setLine _ _) (by simp) (by simp)
    refine ⟨fun v hrole htx hv => ?_, fun hrole htx hv hplacing hbda => ?_,
      fun f hrole htx hf hbody => ⟨fun hn => ?_, fun hn => ?_⟩⟩
    · have hbit := State.bda_of_placed (State.nextLevel_receiver_vote hrole hrx hv hlen) level
      rw [State.riseInFrame_silent (by simp [hrole]) htx hbit] at hexec
      refine ⟨_, hexec, hvote _, ?_, (hbits _).trans ?_, s.withBit_keeps _ _⟩
      · simpa [State.withBit, hfollow] using hv
      · cases v <;> rfl
    · have hbit := State.bda_of_released (State.nextLevel_none hrole (.inr hv)) hplacing hbda level
      rw [State.riseInFrame_silent hrole htx hbit] at hexec
      exact ⟨_, hexec, hvote _, hbits _, s.withBit_keeps _ _⟩
    · obtain ⟨u, rfl, hrise⟩ := State.riseInFrame_slot (level := level) hrole htx hf hbody hrx hlen hlow hn
      rw [hrise] at hexec
      exact ⟨_, hexec, hbits _, by simp [State.withBit, hfollow, htx], by simp [State.withBit, hfollow], rfl, rfl,
        hclocked _ _⟩
    · obtain ⟨u, rfl, hrise⟩ := State.riseInFrame_closing (level := level) hrole htx hf hbody hrx hlen hn
      rw [hrise] at hexec
      exact ⟨_, hexec, hbits _, by simp [State.withBit, hfollow, htx], rfl, rfl, rfl, hclocked _ _⟩
  · have htaken (b : Bool) : s.fe.takeBit b = s.fe := by simp [FrameEngine.takeBit, hrx]
    rw [State.riseInFrame_silent hrole htx rfl] at hexec
    refine ⟨_, hexec, rfl, ?_⟩
    simp [State.withBit, htaken, State.keepsAllBut, Block.all, Block.agrees]

end Sys2Proof.Machine
end

section
/-! SUPPORT, SETTLES O14, O15. A frame as bits: fields written and read again, the check code run over itself, and the
receive buffer along a whole frame. -/

namespace Sys2Proof.Machine

/-! ### Fields and bytes (R57) -/

@[simp] theorem ofMsbBits_msbBits {n : Nat} (v : BitVec n) : ofMsbBits n (msbBits n v) = v := by
  rw [ofMsbBits, bitsToNat_msbBits, BitVec.ofNat_toNat, BitVec.setWidth_eq]

/-- Bits that end with a known field spell it behind whatever the bits before it spell. -/
theorem ofMsbBits_append_msbBits {m n : Nat} (a : List Bool) (v : BitVec n) :
    ofMsbBits (m + n) (a ++ msbBits n v) = ofMsbBits m a ++ v := by
  apply BitVec.eq_of_toNat_eq
  simp only [ofMsbBits, bitsToNat_append, bitsToNat_msbBits, msbBits_length, BitVec.toNat_ofNat, BitVec.toNat_append]
  rw [← Nat.shiftLeft_add_eq_or_of_lt v.isLt, Nat.shiftLeft_eq, add_comm m n, pow_add, Nat.mod_mul,
    Nat.add_div_of_dvd_right (dvd_mul_left _ _), Nat.mul_div_cancel _ (by positivity), Nat.div_eq_of_lt v.isLt,
    Nat.mul_add_mod_self_right, Nat.mod_eq_of_lt v.isLt, add_zero]
  ring

theorem bytesToBits_length (bytes : List Byte) : (bytesToBits bytes).length = 8 * bytes.length := by
  simp [bytesToBits, List.length_flatMap, mul_comm]

@[simp] theorem bitsToBytes_bytesToBits (bytes : List Byte) : bitsToBytes (bytesToBits bytes) = bytes := by
  induction bytes with
  | nil => rfl
  | cons v rest ih =>
    show ofMsbBits 8 (msbBits 8 v) :: bitsToBytes (bytesToBits rest) = v :: rest
    rw [ofMsbBits_msbBits, ih]

/-! ### The check code (R63, R64) -/

theorem crcFrom_append (r : BitVec 16) (a b : List Bool) : crcFrom r (a ++ b) = crcFrom (crcFrom r a) b :=
  List.foldl_append

/-- A bit equal to the register's top bit shifts the register and no more. -/
theorem crcStep_msb (r : BitVec 16) : crcStep r r.msb = r <<< 1 := by
  simp [crcStep]

/-- The register's own bits, most significant first, shift it out. -/
theorem crcFrom_ownBits (r : BitVec 16) {k : Nat} (hk : k ≤ 16) :
    crcFrom r ((List.range k).map fun i => r.getLsbD (16 - 1 - i)) = r <<< k := by
  induction k with
  | zero => simp [crcFrom]
  | succ k ih =>
    have htop : r.getLsbD (16 - 1 - k) = (r <<< k).msb := by
      rw [BitVec.msb_eq_getLsbD_last, BitVec.getLsbD_shiftLeft]
      simp [show k ≤ 15 by omega]
    rw [List.range_succ, List.map_append, crcFrom_append, ih (by omega), List.map_singleton, htop, BitVec.shiftLeft_add,
      ← crcStep_msb]
    rfl

/-- R64: a frame followed by its own check code leaves the register 0. -/
theorem checkCode_append_own (bits : List Bool) : checkCode (bits ++ msbBits 16 (checkCode bits)) = 0#16 := by
  rw [checkCode, crcFrom_append, ← checkCode, msbBits, crcFrom_ownBits _ le_rfl, BitVec.shiftLeft_eq_zero le_rfl]

/-! ### The header (R58) -/

@[simp] theorem FrameKind.bits_length (k : FrameKind) : k.bits.length = 2 := by
  cases k <;> rfl

theorem FrameKind.ofBits_bits (k : FrameKind) : FrameKind.ofBits k.bits = k := by
  cases k <;> rfl

@[simp] theorem Header.bits_length (h : Header) : h.bits.length = 34 := by
  simp [Header.bits]

/-- Table 29: the fields of a header at their positions. -/
theorem Header.fieldAt_bits (h : Header) :
    fieldAt h.bits 1 2 = h.kind.bits ∧ fieldAt h.bits 3 12 = msbBits 12 h.key ∧
      fieldAt h.bits 15 16 = msbBits 16 (~~~h.rank) ∧ fieldAt h.bits 31 4 = msbBits 4 (~~~h.origin) := by
  simp [fieldAt, Header.bits, List.drop_append, List.drop_eq_nil_of_le, List.take_of_length_le]

/-- R58: the header taken is the header sent. -/
theorem decodeHeader_bits (h : Header) : decodeHeader h.bits = h := by
  obtain ⟨hkind, hkey, hrank, horigin⟩ := h.fieldAt_bits
  simp [decodeHeader, hkind, hkey, hrank, horigin, FrameKind.ofBits_bits]

/-! ### The receive buffer (R65, R79) -/

/-- Between the positions at which the header, the descriptor and the check result fall due, bits enter the buffer and the
check register, and no more. -/
theorem RxBuffer.foldl_take_plain {l : List Bool} {b : RxBuffer}
    (hplain : ∀ n, b.bits.length < n → n ≤ b.bits.length + l.length →
      n ≠ 34 ∧ n ≠ 42 ∧ ∀ len ∈ b.bodyLen, n < 58 + len) :
    l.foldl RxBuffer.take b = { b with bits := b.bits ++ l, crc := crcFrom b.crc l } := by
  induction l generalizing b with
  | nil => simp [crcFrom]
  | cons x l ih =>
    obtain ⟨h34, h42, hend⟩ := hplain (b.bits.length + 1) (by omega) (by simp)
    have hx : b.take x = { b with bits := b.bits ++ [x], crc := crcStep b.crc x } := by
      cases hlen : b.bodyLen with
      | none => simp_all [RxBuffer.take]
      | some len =>
        have hn := hend len hlen
        simp [RxBuffer.take, hlen, h34, h42, hn.le, hn.ne]
    rw [List.foldl_cons, hx, ih]
    · simp [crcFrom]
    · intro n hlo hhi
      simp only [List.length_append, List.length_cons, List.length_nil] at hlo hhi hplain
      exact hplain n (by omega) (by omega)

theorem exists_concat_of_length {α : Type} {l : List α} {n : Nat} (h : l.length = n + 1) :
    ∃ k x, l = k ++ [x] ∧ k.length = n := by
  obtain rfl | ⟨k, x, rfl⟩ := l.eq_nil_or_concat'
  · simp at h
  · exact ⟨k, x, rfl, by simpa using h⟩

/-- R58: the first 34 bits decode to a header. -/
theorem RxBuffer.foldl_take_header {h : List Bool} (hlen : h.length = 34) :
    h.foldl RxBuffer.take .initial = ⟨h, some (decodeHeader h), none, none, checkCode h, none⟩ := by
  obtain ⟨l, x, rfl, hl⟩ := exists_concat_of_length hlen
  rw [List.foldl_concat, foldl_take_plain]
  · simp [RxBuffer.initial, RxBuffer.take, hl, checkCode, crcFrom]
  · simp [RxBuffer.initial, hl]
    omega

/-- R65: the next 8 bits are the descriptor, which fixes the body length. -/
theorem RxBuffer.foldl_take_desc {bits d : List Bool} {h : Header} {r : BitVec 16} (hbits : bits.length = 34)
    (hlen : d.length = 8) :
    d.foldl RxBuffer.take ⟨bits, some h, none, none, r, none⟩ =
      ⟨bits ++ d, some h, some (ofMsbBits 8 d), some (bodyLength h.kind (ofMsbBits 8 d)), crcFrom r d, none⟩ := by
  have hfield : fieldAt (bits ++ d) 35 8 = d := by
    simp [fieldAt, hbits, hlen, List.take_of_length_le]
  obtain ⟨l, x, rfl, hl⟩ := exists_concat_of_length hlen
  rw [List.foldl_concat, foldl_take_plain]
  · have hmid (k : Nat) : 42 ≠ 58 + k := by omega
    simp [RxBuffer.take, hbits, hl, crcFrom, hfield, hmid]
  · simp [hbits, hl]
    omega

/-- R63, R64: the body and the check code end with the check result. -/
theorem RxBuffer.foldl_take_rest {bits rest : List Bool} {h : Option Header} {d : Option (BitVec 8)} {len : Nat}
    {r : BitVec 16} (hbits : bits.length = 42) (hlen : rest.length = len + 16) :
    rest.foldl RxBuffer.take ⟨bits, h, d, some len, r, none⟩ =
      ⟨bits ++ rest, h, d, some len, crcFrom r rest, some (crcFrom r rest == 0#16)⟩ := by
  obtain ⟨l, x, rfl, hl⟩ := exists_concat_of_length hlen
  rw [List.foldl_concat, foldl_take_plain]
  · have hend : 42 + (len + 15 + 1) = 58 + len := by omega
    have h34 : 58 + len ≠ 34 := by omega
    have h42 : 58 + len ≠ 42 := by omega
    simp [RxBuffer.take, hbits, hl, crcFrom, hend, h34, h42]
  · simp [hbits, hl]
    omega

/-- R63 to R66: the receive buffer at the last check bit of a frame. -/
theorem mkSnapshot_taken {h : Header} {desc : BitVec 8} {body : List Bool} (captured : Option OrderPair)
    (hlen : body.length = bodyLength h.kind desc) :
    (mkSnapshot h desc body captured).wire.foldl RxBuffer.take .initial =
      ⟨(mkSnapshot h desc body captured).wire, some h, some desc, some body.length, 0#16, some true⟩ := by
  have hcode := checkCode_append_own (coveredBits h desc body)
  have hwire : (mkSnapshot h desc body captured).wire =
      h.bits ++ msbBits 8 desc ++ (body ++ msbBits 16 (checkCode (coveredBits h desc body))) := by
    simp [Snapshot.wire, mkSnapshot, coveredBits]
  rw [hwire]
  generalize checkCode (coveredBits h desc body) = code at hcode
  have hcrc : crcFrom (crcFrom (checkCode h.bits) (msbBits 8 desc)) (body ++ msbBits 16 code) = 0#16 := by
    simpa [coveredBits, checkCode, crcFrom_append] using hcode
  rw [List.foldl_append (l' := body ++ _), List.foldl_append (l := h.bits), RxBuffer.foldl_take_header h.bits_length,
    RxBuffer.foldl_take_desc h.bits_length (msbBits_length _), decodeHeader_bits, ofMsbBits_msbBits, ← hlen,
    RxBuffer.foldl_take_rest (by simp) (by simp), hcrc]
  rfl

/-- R63 to R66: a frame sent with its check code is taken as it was sent, whatever its kind. -/
theorem mkSnapshot_received {h : Header} {desc : BitVec 8} {body : List Bool} (captured : Option OrderPair)
    (hlen : body.length = bodyLength h.kind desc) :
    ((mkSnapshot h desc body captured).wire.foldl RxBuffer.take .initial).content = some (frameContent h desc body) ∧
      ((mkSnapshot h desc body captured).wire.foldl RxBuffer.take .initial).good = some true := by
  have hbody : fieldAt (mkSnapshot h desc body captured).wire 43 body.length = body := by
    simp [fieldAt, Snapshot.wire, mkSnapshot, coveredBits, List.drop_append, List.drop_eq_nil_of_le]
  rw [mkSnapshot_taken captured hlen]
  exact ⟨by simp [RxBuffer.content, RxBuffer.body, hbody], rfl⟩

/-! ### PUBLISH (R59, Table 31) -/

/-- Table 31: the descriptor's three fields. -/
theorem publishDesc_fields (cls : RecordClass) (persistent : Bool) (length : BitVec 6) :
    (if (publishDesc cls persistent length).getLsbD 7 then .owned else .common) = cls ∧
      (publishDesc cls persistent length).getLsbD 6 = persistent ∧
      (publishDesc cls persistent length).extractLsb' 0 6 = length := by
  have hdesc : publishDesc cls persistent length = ofMsbBits 2 [cls == .owned, persistent] ++ length :=
    ofMsbBits_append_msbBits (m := 2) _ length
  rw [hdesc, BitVec.getLsbD_append, BitVec.getLsbD_append]
  refine ⟨?_, ?_, BitVec.extractLsb'_append_eq_right⟩ <;> cases cls <;> cases persistent <;> rfl

/-- Settles O14: the frame is taken as it was sent, and its fields are the entry's. -/
theorem publishFrameDecodesToItsEntry : Obligations.PublishFrameDecodesToItsEntry := by
  intro e hlen
  obtain ⟨hcls, hpersistent, hlength⟩ := publishDesc_fields e.cls e.persistent (BitVec.ofNat 6 e.value.length)
  have hnat : (BitVec.ofNat 6 e.value.length).toNat = e.value.length :=
    Nat.mod_eq_of_lt (by omega)
  obtain ⟨hcontent, hgood⟩ := mkSnapshot_received (h := ⟨.publish, e.tag, e.pair.version, e.pair.origin⟩)
    (some e.pair) (show (bytesToBits e.value).length = _ by rw [bytesToBits_length, bodyLength, hlength, hnat])
  refine ⟨hcontent.trans ?_, hgood⟩
  simp only [frameContent, publishContent, hcls, hpersistent, hlength, hnat, bitsToBytes_bytesToBits]

/-! ### BEACON, PULL and DIGEST (R60 to R62) -/

/-- R62: a BEACON frame is taken as it was sent. -/
theorem beaconSnapshot_received (own : StationId) (inc period : BitVec 8) (joining : Bool) (count : BitVec 8)
    (summary : BitVec 16) :
    ((beaconSnapshot own inc period joining count summary).wire.foldl RxBuffer.take .initial).content =
        some (.beacon ⟨own, 0xFFF#12, inc, period, joining, 0#7, count, summary⟩) ∧
      ((beaconSnapshot own inc period joining count summary).wire.foldl RxBuffer.take .initial).good = some true := by
  obtain ⟨hcontent, hgood⟩ := mkSnapshot_received (h := ⟨.beacon, 0xFFF#12, inc ++ period, own⟩)
    (desc := if joining then 0x80#8 else 0x00#8) (body := msbBits 8 count ++ msbBits 16 summary) none
    (by simp [bodyLength])
  refine ⟨hcontent.trans ?_, hgood⟩
  have hbody : fieldAt (msbBits 8 count ++ msbBits 16 summary) 1 8 = msbBits 8 count ∧
      fieldAt (msbBits 8 count ++ msbBits 16 summary) 9 16 = msbBits 16 summary := by
    simp [fieldAt, List.take_of_length_le]
  have hinc : (inc ++ period).extractLsb' 8 8 = inc := BitVec.extractLsb'_append_eq_left
  have hperiod : (inc ++ period).extractLsb' 0 8 = period := BitVec.extractLsb'_append_eq_right
  cases joining <;> simp [frameContent, beaconContent, hbody, hinc, hperiod]

/-- Tables 32, 33: the descriptor of a PULL or a DIGEST is its count below 4 unused bits. -/
theorem countDesc_fields {n : Nat} (h : n < 16) :
    ((BitVec.ofNat 8 n).extractLsb' 0 4).toNat = n ∧ (BitVec.ofNat 8 n).extractLsb' 4 4 = 0#4 := by
  refine ⟨?_, BitVec.eq_of_toNat_eq ?_⟩ <;> simp [Nat.shiftRight_eq_div_pow] <;> omega

/-- Table 32: one word of a PULL body. -/
theorem pullWord_bits (t : Tag) : ofMsbBits 16 (msbBits 4 0#4 ++ msbBits 12 t) = t.setWidth 16 := by
  rw [ofMsbBits_append_msbBits (m := 4) _ t, ofMsbBits_msbBits]
  exact (BitVec.setWidth_eq_append (by decide)).symm

/-- Table 32: the words of a PULL body are the tags listed. -/
@[simp] theorem pullWords_flatMap (tags : List Tag) :
    pullWords (tags.flatMap fun t => msbBits 4 0#4 ++ msbBits 12 t) tags.length = tags.map (BitVec.setWidth 16) := by
  induction tags with
  | nil => rfl
  | cons t rest ih =>
    rw [List.flatMap_cons, List.length_cons, pullWords, List.take_left' (by simp), List.drop_left' (by simp), ih,
      pullWord_bits, List.map_cons]

/-- R60: a PULL frame of as many tags as its count can tell is taken as it was sent. -/
theorem pullSnapshot_received (own : StationId) {tags : List Tag} (hlen : tags.length < 16) :
    ((pullSnapshot own tags).wire.foldl RxBuffer.take .initial).content =
        some (.pull ⟨own, tags.headD 0#12, 0#16, 0#4, tags.map (BitVec.setWidth 16)⟩) ∧
      ((pullSnapshot own tags).wire.foldl RxBuffer.take .initial).good = some true := by
  obtain ⟨hcount, hunused⟩ := countDesc_fields hlen
  obtain ⟨hcontent, hgood⟩ := mkSnapshot_received (h := ⟨.pull, tags.headD 0#12, 0#16, own⟩)
    (desc := BitVec.ofNat 8 tags.length) (body := tags.flatMap fun t => msbBits 4 0#4 ++ msbBits 12 t) none
    (by simp [bodyLength, hcount, List.length_flatMap, mul_comm])
  exact ⟨hcontent.trans (by simp [frameContent, pullContent, hcount, hunused]), hgood⟩

@[simp] theorem Listed.bits_length (l : Listed) : l.bits.length = 32 := by
  simp [Listed.bits]

/-- Table 33: the fields of a DIGEST entry at their positions. -/
theorem Listed.fieldAt_bits (l : Listed) (rest : List Bool) :
    fieldAt (l.bits ++ rest) 1 12 = msbBits 12 l.tag ∧ fieldAt (l.bits ++ rest) 13 4 = msbBits 4 l.pair.origin ∧
      fieldAt (l.bits ++ rest) 17 16 = msbBits 16 l.pair.version := by
  simp [fieldAt, Listed.bits, List.drop_append, List.drop_eq_nil_of_le]

/-- Table 33: the entries of a DIGEST body are those listed. -/
@[simp] theorem digestEntries_flatMap (listed : List Listed) :
    digestEntries (listed.flatMap Listed.bits) listed.length = listed := by
  induction listed with
  | nil => rfl
  | cons l rest ih =>
    obtain ⟨htag, horigin, hversion⟩ := l.fieldAt_bits (rest.flatMap Listed.bits)
    rw [List.flatMap_cons, List.length_cons, digestEntries, htag, horigin, hversion, List.drop_left' l.bits_length, ih]
    simp

/-- R61: a DIGEST frame of as many entries as its count can tell is taken as it was sent. -/
theorem digestSnapshotFrame_received (own : StationId) (start stop : Tag) {listed : List Listed}
    (hlen : listed.length < 16) :
    ((digestSnapshotFrame own start stop listed).wire.foldl RxBuffer.take .initial).content =
        some (.digest ⟨own, start, stop.setWidth 16, 0#4, listed⟩) ∧
      ((digestSnapshotFrame own start stop listed).wire.foldl RxBuffer.take .initial).good = some true := by
  obtain ⟨hcount, hunused⟩ := countDesc_fields hlen
  obtain ⟨hcontent, hgood⟩ := mkSnapshot_received (h := ⟨.digest, start, stop.setWidth 16, own⟩)
    (desc := BitVec.ofNat 8 listed.length) (body := listed.flatMap Listed.bits) none
    (by simp [bodyLength, hcount, List.length_flatMap, mul_comm])
  exact ⟨hcontent.trans (by simp [frameContent, digestContent, hcount, hunused]), hgood⟩

/-- Settles O15, kind by kind; 8 listed, R60's and R61's most, are within the count's 4 bits. -/
theorem otherFramesDecodeToTheirContent : Obligations.OtherFramesDecodeToTheirContent :=
  ⟨beaconSnapshot_received, fun own _ hlen => pullSnapshot_received own (by omega),
    fun own start stop _ hlen => digestSnapshotFrame_received own start stop (by omega)⟩

end Sys2Proof.Machine
end

section
/-! SUPPORT. The claims that the Sync Unit and the table make at the tail of the Send Queue, and what the Sync Unit is told of an
item that returns. -/

namespace Sys2Proof.Machine

/-! ### Claims at the tail of the Send Queue (R92, R93, R121, R127) -/

/-- R92, R93: a claim for an item that is no BEACON adds it at the tail unless one is queued or the queue is closed or full. -/
theorem State.append_sendQ (s : State) {p : Payload} (hp : p ≠ .beacon) : (s.append p).sendQ =
    if s.onBus = true ∧ (findItem s.sendQ p).isNone = true ∧ s.sendQ.length < 16 then s.sendQ ++ [⟨p, false, 0⟩]
    else s.sendQ := by
  have hplaced : s.appendAnswer p = .placed ↔
      s.onBus = true ∧ (findItem s.sendQ p).isNone = true ∧ s.sendQ.length < 16 := by
    rw [Option.isNone_iff_eq_none]
    exact s.appendAnswer_placed_iff p
  have hplace : placeItem s.sendQ p = s.sendQ ++ [⟨p, false, 0⟩] := by
    cases p with
    | beacon => exact absurd rfl hp
    | _ => rfl
  obtain ⟨ha, happend⟩ | ⟨ha, happend⟩ := s.append_cases p
  · rw [happend, State.setQueue_sendQ, hplace, if_pos (hplaced.1 ha)]
  · rw [happend, if_neg (mt hplaced.2 ha)]

theorem State.append_extends (s : State) {p : Payload} (hp : p ≠ .beacon) :
    (s.append p).sendQ = s.sendQ ∨ (s.append p).sendQ = s.sendQ ++ [⟨p, false, 0⟩] := by
  rw [s.append_sendQ hp]
  split_ifs
  · exact .inr rfl
  · exact .inl rfl

/-- R121: the claim for the run's DIGEST records at most that the item is queued. -/
theorem State.claimDigest_sync (s : State) :
    s.claimDigest.sync = { s.sync with digestQueued := s.claimDigest.sync.digestQueued } := by
  unfold State.claimDigest
  (repeat' split) <;> simp

theorem State.claimDigest_sendQ (s : State) : s.claimDigest.sendQ =
    if s.sync.runActive = true ∧ s.sync.digestQueued = false then (s.append .digest).sendQ else s.sendQ := by
  simp only [State.claimDigest, State.append, Bool.and_eq_true, Bool.not_eq_true']
  split_ifs
  · cases s.appendAnswer .digest <;> rfl
  · rfl

theorem State.claimPull_sendQ (s : State) :
    s.claimPull.sendQ = if s.someDue = true then (s.append .pull).sendQ else s.sendQ := by
  unfold State.claimPull
  split_ifs <;> rfl

theorem State.someDue_iff (s : State) : s.someDue = true ↔ ∃ w ∈ s.sync.wanted, w.asks < 3 ∧ w.nextAsk ≤ s.now := by
  simp only [State.someDue, List.any_eq_true, WantedEntry.due, Bool.and_eq_true, decide_eq_true_eq]
  rfl

/-- R127: with no entry due, no PULL is claimed. -/
theorem State.claimPull_of_not_due {s : State} (h : s.someDue = false) : s.claimPull = s := by
  simp [State.claimPull, h]

/-! ### What the Sync Unit is told (R98, R123, R129) -/

theorem State.toldReturned_digest (s : State) :
    (s.toldReturned .digest).sync = { s.sync with rangeEnd := none } := rfl

theorem State.toldReturned_pull (s : State) : (s.toldReturned .pull).sync = { s.sync with
    pullList := []
    wanted := s.sync.wanted.map fun w =>
      if w.tag ∈ s.sync.pullList then { w with asks := w.asks - 1, nextAsk := s.now } else w } := by
  simp [State.toldReturned]

theorem State.toldReturned_other (s : State) {p : Payload} (hd : p ≠ .digest) (hp : p ≠ .pull) :
    (s.toldReturned p.kind).sync = s.sync := by
  cases p with
  | publish tag again => rfl
  | pull => exact absurd rfl hp
  | digest => exact absurd rfl hd
  | beacon => rfl

end Sys2Proof.Machine
end

section
/-! SUPPORT, SETTLES O44, O45. Received frames of other kinds than PUBLISH: the decision point, and a BEACON at the roster. -/

namespace Sys2Proof.Machine

/-! ### The decision point (R81 to R83) -/

/-- The kind of frame that a content is of. -/
def FrameContent.kind : FrameContent → FrameKind
  | .publish _ => .publish
  | .pull _ => .pull
  | .digest _ => .digest
  | .beacon _ => .beacon

theorem frameContent_kind (h : Header) (desc : BitVec 8) (body : List Bool) : (frameContent h desc body).kind = h.kind := by
  unfold frameContent
  split <;> simp_all [FrameContent.kind]

theorem RxBuffer.kind_of_content {b : RxBuffer} {c : FrameContent} (h : b.content = some c) : b.kind? = some c.kind := by
  unfold RxBuffer.content at h
  split at h
  · rename_i hd d hh _
    cases h
    rw [RxBuffer.kind?, hh, frameContent_kind]
    rfl
  · cases h

section Decision
variable {s : State} {c : FrameContent} {sender : StationId}

theorem State.atDecision_of_content (hbus : s.onBus = true) (hrole : s.fe.role = .receiver) (hdeciding : s.fe.deciding = true)
    (hc : s.fe.buf.content = some c) : s.atDecision c.kind = true := by
  simp [State.atDecision, hbus, hrole, hdeciding, RxBuffer.kind_of_content hc]

theorem FrameEngine.lossConfirmed_of_ne {f : FrameEngine} (h : f.tx ≠ .lostLate) : f.lossConfirmed = false := by
  simp [FrameEngine.lossConfirmed, h]

theorem exec_beaconFrame {f : BeaconContent} (hbus : s.onBus = true) (hrole : s.fe.role = .receiver)
    (hdeciding : s.fe.deciding = true) (htx : s.fe.tx ≠ .lostLate) (hf : s.fe.buf.content = some (.beacon f)) :
    exec .beaconFrame s =
      .next (s.decideOther (.beacon f) f.sender fun s => (s.rosterBeacon f).compareTables f) := by
  have hat : s.atDecision .beacon = true := State.atDecision_of_content hbus hrole hdeciding hf
  refine congrArg Host.Outcome.next ?_
  simp [hat, FrameEngine.lossConfirmed_of_ne htx, hf]

theorem exec_digestFrame {f : DigestContent} (hbus : s.onBus = true) (hrole : s.fe.role = .receiver)
    (hdeciding : s.fe.deciding = true) (htx : s.fe.tx ≠ .lostLate) (hf : s.fe.buf.content = some (.digest f)) :
    exec .digestFrame s =
      .next (s.decideOther (.digest f) f.sender fun s => (s.rosterHeard f.sender).compareDigest f) := by
  have hat : s.atDecision .digest = true := State.atDecision_of_content hbus hrole hdeciding hf
  refine congrArg Host.Outcome.next ?_
  simp [hat, FrameEngine.lossConfirmed_of_ne htx, hf]

theorem exec_pullFrame {f : PullContent} (hbus : s.onBus = true) (hrole : s.fe.role = .receiver)
    (hdeciding : s.fe.deciding = true) (htx : s.fe.tx ≠ .lostLate) (hf : s.fe.buf.content = some (.pull f)) :
    exec .pullFrame s =
      .next (s.decideOther (.pull f) f.sender fun s => (s.rosterHeard f.sender).answerPull f) := by
  have hat : s.atDecision .pull = true := State.atDecision_of_content hbus hrole hdeciding hf
  refine congrArg Host.Outcome.next ?_
  simp [hat, FrameEngine.lossConfirmed_of_ne htx, hf]

variable (hand : State → State)

theorem State.decideOther_badCheck (h : s.fe.buf.good ≠ some true) : s.decideOther c sender hand = s.castVote .retry := by
  simp [State.decideOther, h]

theorem State.decideOther_malformed (hgood : s.fe.buf.good = some true) (h : c.wellFormed = false) :
    s.decideOther c sender hand = s.castVote .reject := by
  simp [State.decideOther, hgood, h]

theorem State.decideOther_ownId (hgood : s.fe.buf.good = some true) (hform : c.wellFormed = true)
    (h : sender = s.control.ownId) : s.decideOther c sender hand = s.castNone.reportDuplicate := by
  simp [State.decideOther, hgood, hform, h]

theorem State.decideOther_handed (hgood : s.fe.buf.good = some true) (hform : c.wellFormed = true)
    (h : sender ≠ s.control.ownId) : s.decideOther c sender hand = (hand s).castVote .accept := by
  simp [State.decideOther, hgood, hform, h]

end Decision

/-- R83, R76: DUPLICATE_ID is reported, with no vote and no hold. -/
theorem State.castNone_reportDuplicate (s : State) : s.castNone.reportDuplicate.fe.vote = s.fe.vote ∧
    s.castNone.reportDuplicate.line.driveBck = false ∧ s.castNone.reportDuplicate.line.hold = .none ∧
    s.castNone.reportDuplicate.reports = { s.reports with duplicateId := true } ∧
    s.keepsAllBut s.castNone.reportDuplicate [.line, .fe, .reports] = true := by
  refine ⟨rfl, rfl, rfl, rfl, ?_⟩
  simp [State.reportDuplicate, State.keepsAllBut, Block.all, Block.agrees]

/-- Settles O45: whatever the content would be handed to, the three rows of R83 come before it. -/
theorem unusableFramesAreHandedToNoBlock : Obligations.UnusableFramesAreHandedToNoBlock := by
  intro s c sender i hbus hrole hdeciding htx hc hsender hbeacon hdigest hpull
  obtain ⟨hand, hexec⟩ : ∃ hand, exec i s = .next (s.decideOther c sender hand) := by
    cases c with
    | publish f => cases hsender
    | pull f =>
      cases hsender
      exact ⟨_, hpull f rfl ▸ exec_pullFrame hbus hrole hdeciding htx hc⟩
    | digest f =>
      cases hsender
      exact ⟨_, hdigest f rfl ▸ exec_digestFrame hbus hrole hdeciding htx hc⟩
    | beacon f =>
      cases hsender
      exact ⟨_, hbeacon f rfl ▸ exec_beaconFrame hbus hrole hdeciding htx hc⟩
  refine ⟨fun hbad => ?_, fun hgood hform => ?_, fun hgood hform hown => ?_⟩
  · rw [State.decideOther_badCheck hand hbad] at hexec
    exact ⟨_, hexec, rfl, s.castVote_keeps _⟩
  · rw [State.decideOther_malformed hand hgood hform] at hexec
    exact ⟨_, hexec, rfl, s.castVote_keeps _⟩
  · rw [State.decideOther_ownId hand hgood hform hown] at hexec
    obtain ⟨hvote, hbck, -, hreports, hk⟩ := s.castNone_reportDuplicate
    exact ⟨_, hexec, hvote, hbck, hreports, hk⟩

/-! ### The roster (R107, R108, Table 57) -/

theorem SyncUnit.peer_eq_none_iff (y : SyncUnit) (id : StationId) : y.peer id = none ↔ ∀ p ∈ y.roster, p.station ≠ id := by
  simp [SyncUnit.peer]

theorem insertPeer_perm (p : PeerEntry) (l : List PeerEntry) : (insertPeer p l).Perm (p :: l) := by
  induction l with
  | nil => exact .refl _
  | cons x rest ih =>
    unfold insertPeer
    split_ifs
    · exact .refl _
    · exact (ih.cons x).trans (.swap p x rest)

/-- R107, R108: a beacon changes the roster alone of the Sync Unit. -/
theorem State.rosterBeacon_sync (s : State) (f : BeaconContent) :
    (s.rosterBeacon f).sync = { s.sync with roster := (s.rosterBeacon f).sync.roster } := by
  simp only [State.rosterBeacon, SyncUnit.modifyPeer]
  (repeat' split) <;> simp

section Roster
variable {s : State} {f : BeaconContent}

theorem State.rosterBeacon_new (h : ∀ p ∈ s.sync.roster, p.station ≠ f.sender) (hroom : s.sync.roster.length < 15) :
    s.rosterBeacon f =
      (s.setSync { s.sync with roster := insertPeer f.newPeer s.sync.roster }).post (.peer .peerJoined f.sender) := by
  have hmax : s.sync.roster.length < maxPeers := hroom
  simp [State.rosterBeacon, (s.sync.peer_eq_none_iff f.sender).2 h, hmax]

theorem State.rosterBeacon_full (h : ∀ p ∈ s.sync.roster, p.station ≠ f.sender) (hfull : 15 ≤ s.sync.roster.length) :
    s.rosterBeacon f = s := by
  have hmax : ¬s.sync.roster.length < maxPeers := by simpa [maxPeers] using hfull
  simp [State.rosterBeacon, (s.sync.peer_eq_none_iff f.sender).2 h, hmax]

/-- R108, Table 57: PEER_RETURNED before PEER_RESTARTED. -/
theorem State.rosterBeacon_held {p : PeerEntry} (h : s.sync.peer f.sender = some p) :
    (s.rosterBeacon f).sync.roster =
        s.sync.roster.map (fun q => if q.station = f.sender then { f.newPeer with station := q.station } else q) ∧
      (s.rosterBeacon f).port.notices =
        (let returned := if p.silent then postInto s.port.notices (.peer .peerReturned f.sender) else s.port.notices
         if p.incarnation ≠ f.incarnation then postInto returned (.peer .peerRestarted f.sender) else returned) := by
  simp only [State.rosterBeacon, h, bne_iff_ne]
  constructor
  · split_ifs <;> simp [SyncUnit.modifyPeer, PeerEntry.heard, BeaconContent.newPeer]
  · split_ifs <;> simp [HostPort.setNotices]

end Roster

/-! ### The comparison of figures (R115, R121) -/

/-- R115: a run is started at figures that differ from the own table's and come from a higher station, if none is active. -/
theorem State.compareTables_eq (s : State) (f : BeaconContent) : s.compareTables f =
    if (f.count ≠ BitVec.ofNat 8 s.table.entries.length ∨ f.summary ≠ s.table.summary) ∧
      s.control.ownId.toNat < f.sender.toNat ∧ s.sync.runActive = false then s.startRun else s := by
  simp only [State.compareTables, RecordTable.count, Bool.and_eq_true, Bool.or_eq_true, bne_iff_ne, decide_eq_true_eq,
    Bool.not_eq_true', and_assoc]

theorem State.startRun_inactive {s : State} (h : s.sync.runActive = false) : s.startRun =
    (s.setSync { s.sync with runActive := true, cursor := 0x001#12, rangeEnd := none }).claimDigest := by
  simp [State.startRun, h]

theorem State.startRun_roster (s : State) : s.startRun.sync.roster = s.sync.roster := by
  unfold State.startRun
  split_ifs
  · rfl
  · rw [State.claimDigest_sync]
    rfl

theorem State.compareTables_roster (s : State) (f : BeaconContent) :
    (s.compareTables f).sync.roster = s.sync.roster := by
  unfold State.compareTables
  split_ifs
  · exact s.startRun_roster
  · rfl

/-- Settles O44: the roster first, then the figures; a run that is started changes neither the roster nor the notices. -/
theorem beaconUpdatesTheRosterAndCompares : Obligations.BeaconUpdatesTheRosterAndCompares := by
  have hexec (s : State) (f : BeaconContent) (hbus : s.onBus = true) (hrole : s.fe.role = .receiver)
      (hdeciding : s.fe.deciding = true) (htx : s.fe.tx ≠ .lostLate) (hf : s.fe.buf.content = some (.beacon f))
      (hgood : s.fe.buf.good = some true) (hform : f.wellFormed = true) (hother : f.sender ≠ s.control.ownId) :
      exec .beaconFrame s = .next (((s.rosterBeacon f).compareTables f).castVote .accept) := by
    rw [exec_beaconFrame hbus hrole hdeciding htx hf, State.decideOther_handed (c := .beacon f) _ hgood hform hother]
  constructor
  · intro s f hbus hrole hdeciding htx hf hgood hform hother
    refine ⟨_, hexec s f hbus hrole hdeciding htx hf hgood hform hother, rfl, ?_, fun hcount hsummary => ?_,
      fun habsent hroom => ?_, fun habsent hfull => ?_, fun p hp => ?_⟩
    · simp [State.keepsAllBut, Block.all, Block.agrees]
    · have hsame : (s.rosterBeacon f).compareTables f = s.rosterBeacon f := by
        rw [State.compareTables_eq, if_neg]
        simp [hcount, hsummary]
      rw [hsame]
      exact ⟨by simpa using s.rosterBeacon_sync f, by simp⟩
    · have hnew := State.rosterBeacon_new habsent hroom
      have hperm := insertPeer_perm f.newPeer s.sync.roster
      simp only [State.castVote_frame, State.compareTables_frame, State.compareTables_roster]
      rw [hnew]
      exact ⟨hperm.mem_iff.2 List.mem_cons_self, hperm.length_eq, rfl⟩
    · simp only [State.castVote_frame, State.compareTables_frame, State.compareTables_roster]
      rw [State.rosterBeacon_full habsent hfull]
      exact ⟨rfl, rfl⟩
    · simp only [State.castVote_frame, State.compareTables_frame, State.compareTables_roster]
      exact State.rosterBeacon_held hp
  · intro s f hbus hrole hdeciding htx hf hgood hform hother hdiffer
    refine ⟨_, hexec s f hbus hrole hdeciding htx hf hgood hform hother, fun hrun hhigher => ?_, fun hno => ?_⟩
    · have hrun' : (s.rosterBeacon f).sync.runActive = false := by
        rw [State.rosterBeacon_sync]
        exact hrun
      have hstart : (s.rosterBeacon f).compareTables f = ((s.rosterBeacon f).setSync
          { (s.rosterBeacon f).sync with runActive := true, cursor := 0x001#12, rangeEnd := none }).claimDigest := by
        rw [State.compareTables_eq, if_pos, State.startRun_inactive hrun']
        exact ⟨by simpa using hdiffer, by simpa using hhigher, hrun'⟩
      rw [hstart]
      refine ⟨?_, ?_, fun hqueued hnone hroom => ?_⟩
      · simp only [State.castVote_frame]
        rw [State.claimDigest_sync]
        rfl
      · simp only [State.castVote_frame]
        rw [State.claimDigest_sync]
        rfl
      · have hqueued' : (s.rosterBeacon f).sync.digestQueued = false := by
          rw [State.rosterBeacon_sync]
          exact hqueued
        have hbus' : (s.rosterBeacon f).onBus = true := by
          rw [State.onBus_congr (s := s) (by simp)]
          exact hbus
        simp [State.claimDigest_sendQ, State.append_sendQ, hqueued', hbus', hnone, hroom]
    · have hsame : (s.rosterBeacon f).compareTables f = s.rosterBeacon f := by
        rw [State.compareTables_eq, if_neg]
        rintro ⟨-, hhigher, hrun⟩
        rw [State.rosterBeacon_sync] at hrun
        simp only [State.rosterBeacon_frame] at hhigher
        rcases hno with h | h
        · exact absurd (h.symm.trans hrun) (by simp)
        · omega
      rw [hsame]
      simp only [State.castVote_frame]
      rw [State.rosterBeacon_sync]
      exact ⟨rfl, by simp⟩

end Sys2Proof.Machine
end

section
/-! SUPPORT, SETTLES O29. The right to open at a DIGEST or a PULL. -/

namespace Sys2Proof.Machine

/-- R122: the range end of a DIGEST from this cursor, with the entries at or beyond the cursor written out. -/
theorem RecordTable.rangeEnd_eq (t : RecordTable) (cursor : Tag) : t.rangeEnd cursor =
    if 8 < (t.fromCursor cursor).length then (((t.fromCursor cursor).take 8).getLast?.map (·.tag)).getD 0xFFE#12
    else 0xFFE#12 := by
  have hlast : (t.digestListed cursor).getLast?.map (·.tag) = ((t.fromCursor cursor).take 8).getLast?.map (·.tag) := by
    rw [RecordTable.digestListed, List.getLast?_map, Option.map_map]
    rfl
  rw [RecordTable.rangeEnd, hlast]
  rfl

section Head
variable {s : State} {n : Nat} {rest : List SendItem}

theorem State.openHead_digest (hq : s.sendQ = ⟨.digest, false, n⟩ :: rest) : s.openHead =
    (s.setSync { s.sync with rangeEnd := some (s.table.rangeEnd s.sync.cursor) }).launch ⟨.digest, false, n⟩ rest
      (digestSnapshotFrame s.control.ownId s.sync.cursor (s.table.rangeEnd s.sync.cursor)
        (s.table.digestListed s.sync.cursor)) := by
  simp [State.openHead, State.openItem, hq, Payload.kind]

/-- R128: a listed entry is asked for once more, and next one answer wait on. -/
theorem State.openHead_pull (hq : s.sendQ = ⟨.pull, false, n⟩ :: rest) (hlists : s.pullSelection ≠ []) : s.openHead =
    (s.setSync { s.sync with
      pullList := s.pullSelection
      wanted := s.sync.wanted.map fun w => if w.tag ∈ s.pullSelection then
        { w with asks := w.asks + 1, nextAsk := s.now + s.control.ownPeriod } else w }).launch ⟨.pull, false, n⟩ rest
      (pullSnapshot s.control.ownId s.pullSelection) := by
  simp [State.openHead, State.openItem, hq, Payload.kind, hlists]

/-- R97: a PULL head that would list nothing is removed unsent. -/
theorem State.openHead_emptyPull (hq : s.sendQ = [⟨.pull, false, n⟩]) (hnone : s.someDue = false) :
    s.openHead = s.setQueue [] := by
  have hselection : s.pullSelection = [] := by
    have h : s.sync.wanted.filter (WantedEntry.due s.now) = [] := by
      simpa [State.someDue] using hnone
    simp [State.pullSelection, h]
  have hclaim : (s.setQueue []).claimPull = s.setQueue [] := State.claimPull_of_not_due hnone
  simp [State.openHead, hq, Payload.kind, hselection, hclaim]

end Head

/-- Settles O29: the opening of a DIGEST or PULL head is a launch behind one update of the Sync Unit. -/
theorem rightToOpenFormsDigestAndPull : Obligations.RightToOpenFormsDigestAndPull := by
  intro s hbus hcond hbck hbda htx
  have hexec := exec_rightToOpen hbus hcond hbck hbda
  rw [if_pos htx] at hexec
  have hkeeps (y : SyncUnit) (item : SendItem) (rest : List SendItem) (f : Snapshot) :
      s.keepsAllBut (((s.setLine s.lineWithRight).setSync y).launch item rest f) [.line, .fe, .sendQ, .sync] = true := by
    simp [State.keepsAllBut, Block.all, Block.agrees]
  refine ⟨fun n rest hq => ?_, fun n rest tags hq hne htags => ?_, fun n hq hnone => ?_⟩
  · rw [State.openHead_digest (s := s.setLine s.lineWithRight) hq] at hexec
    refine ⟨_, hexec, rfl, rfl, ?_, ?_, rfl, hkeeps _ _ _ _⟩
    · exact congrArg some (congrArg (digestSnapshotFrame _ _ · _) (s.table.rangeEnd_eq s.sync.cursor))
    · exact congrArg (fun stop => { s.sync with rangeEnd := some stop }) (s.table.rangeEnd_eq s.sync.cursor)
  · obtain rfl : tags = s.pullSelection := htags
    rw [State.openHead_pull (s := s.setLine s.lineWithRight) hq hne] at hexec
    exact ⟨_, hexec, rfl, rfl, rfl, rfl, rfl, rfl, hkeeps _ _ _ _⟩
  · have hdue : s.someDue = false := by
      rw [← Bool.not_eq_true, State.someDue_iff]
      exact fun ⟨w, hw, hdue⟩ => hnone w hw hdue
    rw [State.openHead_emptyPull (s := s.setLine s.lineWithRight) hq hdue] at hexec
    refine ⟨_, hexec, rfl, ?_, rfl, hbda, ?_⟩
    · simp [htx, TxMachine.follow]
    · simp [State.setQueue, State.keepsAllBut, Block.all, Block.agrees]

end Sys2Proof.Machine
end

section
/-! SUPPORT, SETTLES O36. A transmitter that takes a 0 where it placed a 1. -/

namespace Sys2Proof.Machine

/-! ### The rise of a loss (R43, R73, R74) -/

/-- R47: beyond the vote slots a transmitter places no 1. -/
theorem Snapshot.bitAt_position {f : Snapshot} {n : Nat} (h : f.bitAt n = true) : n ≤ 61 + f.body.length := by
  unfold Snapshot.bitAt at h
  split_ifs at h with hn
  · omega
  · exact of_decide_eq_true h

section Loss
variable {s : State} {f : Snapshot}

/-- The state of a station that lost at this rise, as a receiver that has taken the 0. -/
def State.lost (s : State) : State :=
  (s.withBit (s.lineAtRise.rise false) false).becomeReceiver

theorem State.placedBit_one (hrole : s.fe.role = .transmitter) (hf : s.fe.snapshot = some f)
    (hbit : f.bitAt (s.fe.buf.bits.length + 1) = true) : s.placedBit = some true := by
  have hn := Snapshot.bitAt_position hbit
  rw [State.placedBit_of_transmitter hrole hf (by omega), hbit]

theorem State.rise_taken (htracks : s.tracks = true) (hopen : s.line.frameOpen = true) (hhold : s.line.hold ≠ .decision)
    (hplaced : s.placedBit = some true) : s.rise false =
      ((s.withBit (s.lineAtRise.rise false) false).advanceTx (some true) false).clockRise := by
  have hrise : s.rise false = s.riseInFrame false := by simp [State.rise, htracks, hopen, hhold]
  rw [hrise, State.riseInFrame_eq (bit := false) (LineIf.rise_levels _ false).2.1, hplaced]

theorem State.lost_fe (hhunt : s.fe.rx ≠ .hunt) (hdiscard : s.fe.rx ≠ .discard) : s.lost.fe = { s.fe with
    buf := s.fe.buf.take false
    rx := rxAfter (s.fe.buf.bits.length + 1) (s.fe.buf.take false).bodyLen
    role := .receiver } := by
  simp [State.lost, State.becomeReceiver, State.withBit, FrameEngine.takeBit_following hhunt hdiscard]

@[simp] theorem State.lost_line (s : State) : s.lost.line.driveBck = false ∧ s.lost.line.driveBda = false :=
  ⟨rfl, rfl⟩

theorem State.lost_keeps (s : State) : s.keepsAllBut s.lost [.line, .fe] = true := by
  simp [State.lost, State.withBit, State.keepsAllBut, Block.all, Block.agrees]

/-- R73: a loss in contention. -/
theorem exec_arbitrationLoss (htracks : s.tracks = true) (hopen : s.line.frameOpen = true)
    (hhold : s.line.hold ≠ .decision) (htx : s.fe.tx = .contending) (hplaced : s.placedBit = some true) :
    exec .arbitrationLoss s = .next s.lost.returnItem.rest := by
  have hexec : exec .arbitrationLoss s = .next (s.rise false) :=
    congrArg Host.Outcome.next (if_pos (by simp [htx, hplaced, hopen]))
  have htx' : (s.withBit (s.lineAtRise.rise false) false).fe.tx = .contending := (s.fe.takeBit_kept false).1.trans htx
  have hadvance : (s.withBit (s.lineAtRise.rise false) false).advanceTx (some true) false = s.lost.returnItem.rest := by
    simp [State.advanceTx, htx', State.lost]
  rw [hexec, State.rise_taken htracks hopen hhold hplaced, hadvance, State.clockRise_other]
  simp [State.lost]

/-- R74: the loss position is recorded. -/
def State.lostLate (s : State) : State :=
  s.lost.setFe { s.lost.fe with tx := .lostLate, loss := some s.lost.fe.buf.count }

/-- R74, R77: a loss behind the header, which at the last check bit a bad check code leaves unconfirmed. -/
theorem exec_lateLoss (htracks : s.tracks = true) (hopen : s.line.frameOpen = true) (hhold : s.line.hold ≠ .decision)
    (htx : s.fe.tx = .sending) (hplaced : s.placedBit = some true) : exec .lateLoss s = .next
      (if s.lost.fe.buf.checkEnd = some s.lost.fe.buf.count ∧ s.lost.fe.buf.good = some false then
        s.lostLate.lossNotConfirmed else s.lostLate) := by
  have hexec : exec .lateLoss s = .next (s.rise false) :=
    congrArg Host.Outcome.next (if_pos (by simp [htx, hplaced, hopen]))
  have htx' : (s.withBit (s.lineAtRise.rise false) false).fe.tx = .sending := (s.fe.takeBit_kept false).1.trans htx
  have hadvance : (s.withBit (s.lineAtRise.rise false) false).advanceTx (some true) false =
      if s.lost.fe.buf.checkEnd = some s.lost.fe.buf.count ∧ s.lost.fe.buf.good = some false then
        s.lostLate.lossNotConfirmed else s.lostLate := by
    simp [State.advanceTx, htx', State.lost, State.lostLate]
  rw [hexec, State.rise_taken htracks hopen hhold hplaced, hadvance, State.clockRise_other]
  split_ifs <;> simp [State.lost, State.lostLate]

end Loss

/-! ### The check result at a late loss (R64, R77) -/

/-- R65: away from position 42 the body length, and with it the last check bit, stays. -/
theorem RxBuffer.take_checkEnd {b : RxBuffer} (h : b.bits.length + 1 ≠ 42) (bit : Bool) :
    (b.take bit).checkEnd = b.checkEnd := by
  rw [RxBuffer.checkEnd, RxBuffer.take_bodyLen h, RxBuffer.checkEnd]

/-- R65: while the body length is not fixed, and in the step that fixes it, no check code has ended. -/
theorem RxBuffer.take_checkEnd_unfixed {b : RxBuffer} (hlen : b.bodyLen = none) (bit : Bool) :
    (b.take bit).checkEnd ≠ some (b.bits.length + 1) := by
  by_cases hn : b.bits.length + 1 = 42
  · rw [hn]
    intro hc
    obtain ⟨len, -, hend⟩ := Option.map_eq_some_iff.1 hc
    omega
  · rw [RxBuffer.take_checkEnd hn, RxBuffer.checkEnd, hlen]
    simp

/-- Settles O36: both losses make the station a receiver; the item of the first is WAITING again, and the second is confirmed
or not by the check code. -/
theorem lossesMakeAReceiver : Obligations.LossesMakeAReceiver := by
  constructor
  · intro s f item rest htracks hopen hhold htx hrole hrx hf hbit hq hin
    have hexec := exec_arbitrationLoss htracks hopen hhold htx (State.placedBit_one hrole hf hbit)
    have hfe := State.lost_fe (s := s) (by simp [hrx]) (by simp [hrx])
    obtain ⟨hpending, hblocks⟩ := (State.keepsAllBut_iff _ _ _).1 s.lost_keeps
    have hsync : s.lost.sync = s.sync := by simpa [Block.agrees] using hblocks .sync (by decide)
    have hnow : s.lost.now = s.now := by simpa [Block.agrees] using hblocks .clock (by decide)
    have hq' : s.lost.sendQ = item :: rest := by simpa [Block.agrees, hq] using hblocks .sendQ (by decide)
    rw [State.returnItem_head hq' hin] at hexec
    refine ⟨_, hexec, ?_, ?_, ?_, rfl, ?_, by simp, by simp, fun hd => ?_, fun hp => ?_, fun hd hp => ?_, ?_⟩
    · simp
    · simp [State.rest]
    · simp [hfe]
    · simp [hfe, RxBuffer.take_bits]
    · simp [hd, Payload.kind, State.toldReturned_digest, hsync]
    · simp [hp, Payload.kind, State.toldReturned_pull, hsync, hnow]
    · simp [State.toldReturned_other _ hd hp, hsync]
    · refine State.keepsAllBut_trans s.lost_keeps (second := [.fe, .sendQ, .sync]) ?_ (by simp) (by simp)
      simp [State.keepsAllBut, Block.all, Block.agrees]
  · intro s f htracks hopen hhold htx hrole hrx hf hbit
    have hexec := exec_lateLoss htracks hopen hhold htx (State.placedBit_one hrole hf hbit)
    have hfe := State.lost_fe (s := s) (by rcases hrx with h | h <;> simp [h]) (by rcases hrx with h | h <;> simp [h])
    have hcount : s.lost.fe.buf.count = s.fe.buf.bits.length + 1 := by simp [hfe, RxBuffer.take_count]
    have hkeeps : s.keepsAllBut s.lostLate [.line, .fe] = true :=
      State.keepsAllBut_trans s.lost_keeps (second := [.fe])
        (by simp [State.lostLate, State.keepsAllBut, Block.all, Block.agrees]) (by simp) (by simp)
    have hend (len : Nat) (hlen : s.fe.buf.bodyLen = some len) (h42 : 42 ≤ s.fe.buf.bits.length) :
        s.lost.fe.buf.checkEnd = some (58 + len) := by
      rw [hfe]
      exact (RxBuffer.take_checkEnd (by omega) false).trans (by rw [RxBuffer.checkEnd, hlen]; rfl)
    by_cases hbad : s.lost.fe.buf.checkEnd = some s.lost.fe.buf.count ∧ s.lost.fe.buf.good = some false
    · rw [if_pos hbad] at hexec
      obtain ⟨hcheck, hgood⟩ := hbad
      rw [hcount] at hcheck
      refine ⟨_, hexec, by simp [State.lostLate, hfe], by simp [State.lostLate, hfe, RxBuffer.take_bits],
        by simp [State.lostLate], by simp [State.lostLate], fun hconfirmed => ?_,
        fun len item rest hlen h42 hn _ hq hin hattempts => ?_⟩
      · rcases hconfirmed with ⟨-, hlen⟩ | ⟨len, hlen, h42, hn | ⟨-, hgood'⟩⟩
        · rw [hfe] at hcheck
          exact absurd hcheck (RxBuffer.take_checkEnd_unfixed hlen false)
        · rw [hend len hlen h42] at hcheck
          have hn' := Option.some.inj hcheck
          omega
        · have hgood'' : s.lost.fe.buf.good = some true := by simpa [State.lostLate] using hgood'
          exact absurd (hgood.symm.trans hgood'') (by simp)
      · have hq' : s.lostLate.sendQ = item :: rest := by simpa [State.lostLate, State.lost, State.withBit] using hq
        have hat := State.lossNotConfirmed_counts hq' hin
        obtain ⟨hq'', -⟩ := hat.counted.returned hattempts
        refine ⟨hq'', hat.tx (by simp [hq'']), hat.snapshot, rfl,
          State.keepsAllBut_trans hkeeps (second := [.fe, .sendQ, .sync]) ?_ (by simp) (by simp)⟩
        simp [State.lossNotConfirmed, State.countAttempt_returns hq' hin hattempts, State.keepsAllBut, Block.all, Block.agrees]
    · rw [if_neg hbad] at hexec
      refine ⟨_, hexec, by simp [State.lostLate, hfe], by simp [State.lostLate, hfe, RxBuffer.take_bits],
        by simp [State.lostLate], by simp [State.lostLate], fun _ => ⟨rfl, ?_, ?_, hkeeps⟩,
        fun len item rest hlen h42 hn hgood => ?_⟩
      · simp [State.lostLate, hcount]
      · simp [State.lostLate, hfe, hf]
      · exact absurd ⟨by rw [hend len hlen h42, hcount, hn], hgood⟩ hbad

end Sys2Proof.Machine
end

section
/-! SUPPORT, SETTLES O37. A late loss that the check code of the frame taken confirms. -/

namespace Sys2Proof.Machine

/-- R58: the tag of a PUBLISH content is the key of its header. -/
theorem RxBuffer.key_of_publish {b : RxBuffer} {f : PublishContent} (h : b.content = some (.publish f)) :
    b.header.map (·.key) = some f.tag := by
  unfold RxBuffer.content at h
  split at h
  · rename_i hd d hh _
    rw [hh, Option.map_some, Option.some.injEq]
    unfold frameContent at h
    split at h <;> cases h
    rfl
  · cases h

theorem FrameEngine.lossConfirmed_of {f : FrameEngine} (htx : f.tx = .lostLate) (hgood : f.buf.good = some true) :
    f.lossConfirmed = true := by
  simp [FrameEngine.lossConfirmed, htx, hgood]

/-- R76: the loss of a PULL, DIGEST or BEACON frame. -/
theorem exec_lateLossConfirmed_other {s : State} {c : FrameContent} (hbus : s.onBus = true)
    (hloss : s.fe.lossConfirmed = true) (hc : s.fe.buf.content = some c) (hother : ∀ f, c ≠ .publish f) :
    exec .lateLossConfirmed s = .next s.castNone.reportDuplicate := by
  refine congrArg Host.Outcome.next ?_
  cases c with
  | publish f => exact absurd rfl (hother f)
  | _ => simp [hbus, hloss, hc]

/-- R75: the loss of a PUBLISH frame at its decision point. -/
theorem exec_lateLossConfirmed_publish {s : State} {f : PublishContent} (hbus : s.onBus = true)
    (hloss : s.fe.lossConfirmed = true) (hf : s.fe.buf.content = some (.publish f)) (hdeciding : s.fe.deciding = true) :
    exec .lateLossConfirmed s = .next (s.decidePublish f).applyLateLoss := by
  refine congrArg Host.Outcome.next ?_
  simp [hbus, hloss, hf, hdeciding]

/-- R93: a claim for a record whose item is queued adds none. -/
theorem State.claimPublish_present {s : State} {tag : Tag} (h : findItem s.sendQ (.publish tag false) ≠ none) :
    s.claimPublish tag = s := by
  obtain ⟨ha, -⟩ | ⟨-, happend⟩ := s.append_cases (.publish tag false)
  · exact absurd (((s.appendAnswer_placed_iff _).1 ha).2.1) h
  · exact happend

/-- R3: of two pairs one at most is later than the other. -/
theorem OrderPair.later_asymm {p q : OrderPair} (h : p.later q = true) : q.later p = false := by
  cases hq : q.later p with
  | false => rfl
  | true => exact absurd (OrderPair.later_trans h hq) (by simp [OrderPair.later_self])

/-- R75, R99: from `s` to `t` the frame taken has been voted `vote`, the notices are `notices`, and the item that lost late at
`position` is removed. -/
structure LateLossApplied (s : State) (tag : Tag) (again : Bool) (rest : List SendItem) (position : Nat) (vote : Vote)
    (notices : List Notice) (t : State) : Prop where
  vote : t.fe.vote = some vote
  notices : t.port.notices = postInto notices ⟨.diverged, some tag, none, s.fe.snapshot.bind (·.captured),
    some (if position ≤ 36 then .attributes else .value)⟩
  table : t.table = s.table
  sendQ : t.sendQ = removedQueue tag again rest
  tx : t.fe.tx = if removedQueue tag again rest = [] then .idle else .waiting
  snapshot : t.fe.snapshot = none
  loss : t.fe.loss = some position
  hold : t.line.hold = .none
  released : t.line.driveBck = false
  others : s.keepsAllBut t [.line, .fe, .sendQ, .port] = true

/-- R75: after a decision that changed no more than the notices. -/
theorem State.applyLateLoss_applied {s : State} {f : PublishContent} {again : Bool} {n : Nat} {rest : List SendItem}
    {position : Nat} (hbus : s.onBus = true) (hf : s.fe.buf.content = some (.publish f))
    (hq : s.sendQ = ⟨.publish f.tag again, true, n⟩ :: rest) (hloss : s.fe.loss = some position) (p : HostPort) (v : Vote) :
    LateLossApplied s f.tag again rest position v p.notices ((s.setPort p).castVote v).applyLateLoss := by
  have happly : ((s.setPort p).castVote v).applyLateLoss =
      ((((s.setPort p).castVote v).post ⟨.diverged, some f.tag, none, s.fe.snapshot.bind (·.captured),
        some (lossReason position)⟩).setSendQ (removedQueue f.tag again rest)).rest := by
    have hbus' : ((s.setPort p).castVote v).onBus = true := hbus
    have hq' : ((s.setPort p).castVote v).sendQ = ⟨.publish f.tag again, true, n⟩ :: rest := hq
    simp only [State.applyLateLoss, hq', hbus', if_true, afterRemoval_publish]
    simp [State.castVote, hloss, RxBuffer.key_of_publish hf]
  rw [happly]
  exact {
    vote := by simp [State.rest, State.castVote]
    notices := by simp [lossReason, HostPort.setNotices]
    table := by simp
    sendQ := by simp
    tx := by simp [State.rest]
    snapshot := by simp [State.rest]
    loss := by simpa [State.rest, State.castVote] using hloss
    hold := by simp [State.castVote]
    released := by simp [State.castVote]
    others := by simp [State.keepsAllBut, Block.all, Block.agrees] }

/-- Settles O37: a frame of another kind is reported; a PUBLISH frame is decided by its case of Table 11, and then the loss is
applied. -/
theorem confirmedLateLossIsReported : Obligations.ConfirmedLateLossIsReported := by
  intro s hbus htx hgood
  have hconfirmed := FrameEngine.lossConfirmed_of htx hgood
  constructor
  · intro c hc hother
    obtain ⟨hvote, hbck, hhold, hreports, hk⟩ := s.castNone_reportDuplicate
    exact ⟨_, exec_lateLossConfirmed_other hbus hconfirmed hc hother, hreports, hvote, hbck, hhold, hk⟩
  intro f e again n rest p hf hdeciding hm he hq hloss removed own
  have happlied := State.applyLateLoss_applied hbus hf hq hloss
  have hpost (x : Notice) := happlied (s.port.setNotices (postInto s.port.notices x)) .reject
  have hcase := RecordTable.publishCase_held hm he
  have hattributes (h : e.cls ≠ f.cls ∨ e.persistent ≠ f.persistent) :
      LateLossApplied s f.tag again rest p .reject
        (postInto s.port.notices ⟨.diverged, some f.tag, none, some f.pair, some .attributes⟩)
        (s.decidePublish f).applyLateLoss := by
    rw [State.decidePublish_of_good hgood (hcase.trans (if_pos h))]
    exact hpost _
  have hvalue (hcls : e.cls = f.cls) (hp : e.persistent = f.persistent)
      (howner : e.cls = .owned → e.owner = some f.pair.origin) (hpair : e.pair = f.pair) (hv : e.value ≠ f.value) :
      LateLossApplied s f.tag again rest p .reject
        (postInto s.port.notices ⟨.diverged, some f.tag, none, some f.pair, some .value⟩)
        (s.decidePublish f).applyLateLoss := by
    have hkept := RecordTable.publishCase_kept hm he hcls hp howner (by rw [hpair, OrderPair.later_self])
    rw [State.decidePublish_of_good hgood (hkept.trans ((if_pos hpair.symm).trans (if_neg (Ne.symm hv))))]
    exact hpost _
  have hearlier (hcls : e.cls = f.cls) (hp : e.persistent = f.persistent)
      (howner : e.cls = .owned → e.owner = some f.pair.origin) (hl : e.pair.later f.pair = true) :
      LateLossApplied s f.tag again rest p .accept s.port.notices (s.decidePublish f).applyLateLoss := by
    have hne : f.pair ≠ e.pair := by
      intro heq
      rw [heq, OrderPair.later_self] at hl
      cases hl
    have hkept := RecordTable.publishCase_kept hm he hcls hp howner (OrderPair.later_asymm hl)
    have hsame : (Payload.publish f.tag again).sameItem (.publish f.tag false) = true := beq_self_eq_true f.tag
    have hqueued : findItem s.sendQ (.publish f.tag false) ≠ none := by simp [findItem, hq, hsame]
    have hclaim : s.publishEffect f .earlier = s := State.claimPublish_present hqueued
    rw [State.decidePublish_of_good hgood (hkept.trans (if_neg hne)), hclaim]
    exact happlied s.port .accept
  refine ⟨_, exec_lateLossConfirmed_publish hbus hconfirmed hf hdeciding,
    fun h => ⟨(hattributes h).vote, (hattributes h).notices⟩,
    fun hcls hp howner hpair hv => ⟨(hvalue hcls hp howner hpair hv).vote, (hvalue hcls hp howner hpair hv).notices⟩,
    fun hcls hp howner hl => ⟨(hearlier hcls hp howner hl).vote, (hearlier hcls hp howner hl).notices⟩, fun h => ?_⟩
  obtain ⟨v, q, ha⟩ : ∃ v q, LateLossApplied s f.tag again rest p v q (s.decidePublish f).applyLateLoss := by
    by_cases hattr : e.cls ≠ f.cls ∨ e.persistent ≠ f.persistent
    · exact ⟨_, _, hattributes hattr⟩
    obtain ⟨hcls, hp⟩ : e.cls = f.cls ∧ e.persistent = f.persistent := by simpa [not_or] using hattr
    obtain ⟨howner, ⟨hpair, hv⟩ | hl⟩ := h.resolve_left hattr
    · exact ⟨_, _, hvalue hcls hp howner hpair hv⟩
    · exact ⟨_, _, hearlier hcls hp howner hl⟩
  exact ⟨ha.table, ha.sendQ, ha.tx, ha.snapshot, ha.loss, ha.hold, ha.released, ha.others⟩

end Sys2Proof.Machine
end

section
/-! SUPPORT, SETTLES O39. The outcome of the Sync Unit's items: PULL, DIGEST and BEACON. -/

namespace Sys2Proof.Machine

/-! ### The transmit machine stays in VOTING (Table 42) -/

theorem State.setQueue_voting {s : State} (h : s.fe.tx = .voting) (q : List SendItem) : (s.setQueue q).fe.tx = .voting := by
  simp [h, TxMachine.follow]

theorem State.append_voting {s : State} (h : s.fe.tx = .voting) (p : Payload) : (s.append p).fe.tx = .voting := by
  obtain ⟨-, happend⟩ | ⟨-, happend⟩ := s.append_cases p
  · rw [happend, State.setQueue_voting h]
  · rw [happend, h]

theorem State.claimPull_voting {s : State} (h : s.fe.tx = .voting) : s.claimPull.fe.tx = .voting := by
  unfold State.claimPull
  split_ifs
  · exact State.append_voting h _
  · exact h

theorem State.claimDigest_voting {s : State} (h : s.fe.tx = .voting) : s.claimDigest.fe.tx = .voting := by
  unfold State.claimDigest
  (repeat' split)
  · exact State.append_voting h _
  · exact h
  · exact h
  · exact h

/-! ### The Sync Unit at the end of its item (R123, R124, R129) -/

/-- R124: the Sync Unit when the digest run ends. -/
def SyncUnit.runEnded (y : SyncUnit) (joining : Bool) : SyncUnit :=
  { y with
    runActive := false
    digestQueued := false
    rangeEnd := none
    settle := if joining then .running 0 else y.settle
    joinDigest := if y.joinDigest = .running then .done else y.joinDigest }

/-- R131, R132: a run that ends in JOINING starts the settle timer, so that the station is not yet ready. -/
theorem State.endRun_eq (s : State) (digestQueued : Bool) :
    (s.setSync { s.sync with digestQueued := digestQueued, rangeEnd := none }).endRun =
      s.setSync (s.sync.runEnded (s.control.link = .joining)) := by
  rw [State.endRun, State.testReady_of_settling]
  · simp only [SyncUnit.runEnded, decide_eq_true_eq]
    rfl
  · intro hl
    have hl' : s.control.link = .joining := hl
    simp [hl']

section Told
variable {s : State} {o : Outcome}

/-- R123: the run ends at an UNDELIVERED item and behind the last range. -/
theorem State.toldCompleted_digest_ends (h : o = .undelivered ∨ s.sync.rangeEnd = some 0xFFE#12) :
    s.toldCompleted .digest o = s.setSync (s.sync.runEnded (s.control.link = .joining)) := by
  rw [← s.endRun_eq false]
  rcases h with rfl | h
  · rfl
  · cases o <;> simp [State.toldCompleted, State.digestCompleted, h]

/-- R123: the run goes on behind the range that the item carried. -/
theorem State.toldCompleted_digest_goesOn (ho : o ≠ .undelivered) {stop : Tag} (h : s.sync.rangeEnd = some stop)
    (hstop : stop ≠ 0xFFE#12) : s.toldCompleted .digest o =
      (s.setSync { s.sync with digestQueued := false, rangeEnd := none, cursor := stop + 1#12 }).claimDigest := by
  cases o with
  | undelivered => exact absurd rfl ho
  | delivered | unheard | rejected => simp [State.toldCompleted, State.digestCompleted, h, hstop]

theorem State.toldCompleted_pull (s : State) (o : Outcome) :
    s.toldCompleted .pull o = (s.setSync { s.sync with pullList := [] }).claimPull := rfl

theorem State.toldCompleted_beacon (s : State) (o : Outcome) : s.toldCompleted .beacon o = s := rfl

/-- R123: what the end of the DIGEST item makes of the run: its end, another DIGEST, or, without a range, a claim alone. -/
theorem State.toldCompleted_digest_cases (s : State) (o : Outcome) :
    (∃ y, s.toldCompleted .digest o = s.setSync y) ∨ ∃ y, s.toldCompleted .digest o = (s.setSync y).claimDigest := by
  by_cases hend : o = .undelivered ∨ s.sync.rangeEnd = some 0xFFE#12
  · exact .inl ⟨_, State.toldCompleted_digest_ends hend⟩
  obtain ⟨ho, hstop⟩ := not_or.1 hend
  cases h : s.sync.rangeEnd with
  | some stop => exact .inr ⟨_, State.toldCompleted_digest_goesOn ho h (fun hc => hstop (h.trans (congrArg some hc)))⟩
  | none =>
    refine .inr ⟨{ s.sync with digestQueued := false }, ?_⟩
    cases o with
    | undelivered => exact absurd rfl ho
    | delivered | unheard | rejected => simp [State.toldCompleted, State.digestCompleted, h]

theorem State.toldCompleted_keeps (s : State) (kind : FrameKind) (o : Outcome) :
    s.keepsAllBut (s.toldCompleted kind o) [.fe, .sendQ, .sync] = true := by
  have hreports : (s.toldCompleted kind o).reports = s.reports := by
    cases kind with
    | publish | beacon => rfl
    | pull => simp [State.toldCompleted_pull]
    | digest => obtain ⟨y, h⟩ | ⟨y, h⟩ := s.toldCompleted_digest_cases o <;> simp [h]
  simp [State.keepsAllBut, Block.all, Block.agrees, hreports]

theorem State.toldCompleted_voting (h : s.fe.tx = .voting) (kind : FrameKind) (o : Outcome) :
    (s.toldCompleted kind o).fe.tx = .voting := by
  cases kind with
  | publish | beacon => exact h
  | pull => exact State.claimPull_voting (s := s.setSync _) h
  | digest =>
    obtain ⟨y, hy⟩ | ⟨y, hy⟩ := s.toldCompleted_digest_cases o
    · rw [hy]
      exact h
    · rw [hy]
      exact State.claimDigest_voting (s := s.setSync y) h

end Told

section Claims
variable {s : State} (hbus : s.onBus = true)
include hbus

/-- R97, R127: behind a PULL another is queued while some entry is due. -/
theorem State.toldCompleted_pull_sendQ (o : Outcome) : (s.toldCompleted .pull o).sendQ =
    if s.someDue = true ∧ (findItem s.sendQ .pull).isNone = true ∧ s.sendQ.length < 16 then
      s.sendQ ++ [⟨.pull, false, 0⟩] else s.sendQ := by
  have hdue : (s.setSync { s.sync with pullList := [] }).someDue = s.someDue := rfl
  rw [State.toldCompleted_pull, State.claimPull_sendQ, State.append_sendQ _ (by simp), hdue]
  by_cases h : s.someDue = true <;> simp [h, hbus]

/-- R123: the next DIGEST of a run is claimed for the range behind the one carried. -/
theorem State.toldCompleted_digest_next {o : Outcome} (ho : o ≠ .undelivered) {stop : Tag}
    (h : s.sync.rangeEnd = some stop) (hstop : stop ≠ 0xFFE#12) :
    (s.toldCompleted .digest o).sync.cursor = stop + 1#12 ∧ (s.toldCompleted .digest o).sync.rangeEnd = none ∧
      (s.toldCompleted .digest o).sync.runActive = s.sync.runActive ∧
      (s.toldCompleted .digest o).sendQ =
        if s.sync.runActive = true ∧ (findItem s.sendQ .digest).isNone = true ∧ s.sendQ.length < 16 then
          s.sendQ ++ [⟨.digest, false, 0⟩] else s.sendQ := by
  rw [State.toldCompleted_digest_goesOn ho h hstop, State.claimDigest_sync, State.claimDigest_sendQ,
    State.append_sendQ _ (by simp)]
  refine ⟨rfl, rfl, rfl, ?_⟩
  cases hrun : s.sync.runActive <;> simp [hrun, hbus]

end Claims

/-! ### The head item at the outcome (Tables 44 and 45) -/

/-- The payloads of the Sync Unit's items. -/
def Payload.ofSync (p : Payload) : Prop :=
  p = .pull ∨ p = .digest ∨ p = .beacon

/-- R86, R87: UNDELIVERED for an item of the Sync Unit. -/
def Payload.undeliveredNotice (p : Payload) : Notice :=
  ⟨.undelivered, none, none, none, some p.kind.reason⟩

/-- What the slots make of an item of the Sync Unit at the head: an attempt counted, the fourth attempt, or a completion. -/
inductive SyncItemApplied (s : State) (item : SendItem) (rest : List SendItem) : State → Prop where
  | attempt (hretry : s.fe.buf.slot 2 = false) (hn : item.attempts + 1 < 4) : SyncItemApplied s item rest
      ((s.setSendQ ({ item with inFlight := false, attempts := item.attempts + 1 } :: rest)).toldReturned item.payload.kind)
  | undelivered (hretry : s.fe.buf.slot 2 = false) (hn : 4 ≤ item.attempts + 1) (x : State)
      (hx : (s.setSendQ rest).post item.payload.undeliveredNotice = x) :
      SyncItemApplied s item rest (x.toldCompleted item.payload.kind .undelivered)
  | completed (hretry : s.fe.buf.slot 2 = true) (o : Outcome) (ho : o ≠ .undelivered) (x : State)
      (hx : s.setSendQ rest = x) : SyncItemApplied s item rest (x.toldCompleted item.payload.kind o)

section Item
variable {s : State} {item : SendItem} {rest : List SendItem}

theorem State.complete_syncItem (hq : s.sendQ = item :: rest) (hin : item.inFlight = true) (hp : item.payload.ofSync)
    {o : Outcome} (ho : o ≠ .undelivered) : s.complete o = (s.setSendQ rest).toldCompleted item.payload.kind o := by
  have hremoved : afterRemoval s.onBus item rest = rest := by
    rcases hp with h | h | h <;> simp [afterRemoval, h]
  have hnotice : completionNotice item.payload (s.fe.snapshot.bind (·.captured)) o = none := by
    rcases hp with h | h | h <;> cases o <;> simp_all [completionNotice]
  simp only [State.complete, hq, hin, if_true, hremoved, hnotice, State.postIf]
  rcases hp with h | h | h <;> rw [h]

theorem State.countAttempt_syncItem_ends (hq : s.sendQ = item :: rest) (hin : item.inFlight = true)
    (hp : item.payload.ofSync) (hn : ¬item.attempts + 1 < maxAttempts) : s.countAttempt =
      ((s.setSendQ rest).post item.payload.undeliveredNotice).toldCompleted item.payload.kind .undelivered := by
  rw [State.countAttempt_ends hq hin hn]
  rcases hp with h | h | h <;> rw [h] <;> simp [afterRemoval, completionNotice, State.postIf, Payload.undeliveredNotice]

/-- R85: the outcome fixed is the one that the slots make, applied. -/
theorem State.fixOutcome_syncItem (hq : s.sendQ = item :: rest) (hin : item.inFlight = true) (hp : item.payload.ofSync) :
    ∃ v, SyncItemApplied s item rest v ∧ s.fixOutcome = v.setFe { v.fe with outcomeFixed := true } := by
  cases hretry : s.fe.buf.slot 2 with
  | false =>
    refine ⟨s.countAttempt, ?_, by simp only [State.fixOutcome, slotOutcome, hretry]; rfl⟩
    by_cases hn : item.attempts + 1 < maxAttempts
    · exact State.countAttempt_returns hq hin hn ▸ .attempt hretry hn
    · exact State.countAttempt_syncItem_ends hq hin hp hn ▸ .undelivered hretry (not_lt.1 hn) _ rfl
  | true =>
    obtain ⟨o, ho, hslots⟩ : ∃ o, o ≠ .undelivered ∧
        slotOutcome (s.fe.buf.slot 1) true (s.fe.buf.slot 3) = some o := by
      cases s.fe.buf.slot 1 <;> cases s.fe.buf.slot 3 <;> exact ⟨_, by simp, rfl⟩
    refine ⟨s.complete o, ?_, by simp only [State.fixOutcome, hretry, hslots]⟩
    exact State.complete_syncItem hq hin hp ho ▸ .completed hretry o ho _ rfl

theorem SyncItemApplied.tx {v : State} (h : SyncItemApplied s item rest v) (htx : s.fe.tx = .voting) :
    v.fe.tx = .voting := by
  cases h with
  | attempt => simpa using htx
  | undelivered _ _ x hx => exact State.toldCompleted_voting (by simpa [← hx] using htx) _ _
  | completed _ o _ x hx => exact State.toldCompleted_voting (by simpa [← hx] using htx) _ _

end Item

/-! ### VOTE_OUTCOME -/

/-- R85: the command is the rise at the REJECT slot: with this bit taken, the outcome is fixed and the clock goes on. -/
theorem exec_voteOutcome {s : State} {f : Snapshot} {level : Bool} {len : Nat} (hbus : s.onBus = true)
    (hopen : s.line.frameOpen = true) (hhold : s.line.hold ≠ .decision) (htx : s.fe.tx = .voting)
    (hfixed : s.fe.outcomeFixed = false) (hrole : s.fe.role = .transmitter) (hrx : s.fe.rx = .vote)
    (hf : s.fe.snapshot = some f) (hlen : s.fe.buf.bodyLen = some len) (hbody : f.body.length = len)
    (hcount : s.fe.buf.bits.length = 60 + len) :
    ∃ l e, exec (.voteOutcome level) s = .next ((s.setLine l).setFe e).fixOutcome.clockRise ∧ e.tx = .voting ∧
      e.buf.slot 2 = s.fe.buf.bits.getD (59 + len) true := by
  obtain ⟨l, rx, hrise⟩ := s.rise_rejectSlot (level := level) hbus hopen hhold htx hfixed hrole hrx hf hlen hbody hcount
  have hexec : exec (.voteOutcome level) s = .next (s.rise level) := by
    refine congrArg Host.Outcome.next (if_pos ?_)
    simp [htx, hfixed, hopen, hlen, RxBuffer.count, hcount]
  have hlen' : (s.fe.buf.take level).bodyLen = some len := by
    rw [RxBuffer.take_bodyLen (by simp only [RxBuffer.count, hcount]; omega), hlen]
  refine ⟨l, _, hexec.trans (congrArg _ hrise), htx, ?_⟩
  rw [RxBuffer.slot, hlen', RxBuffer.take_bits, Option.getD_some, List.getD_append _ _ _ _ (by omega), Nat.add_right_comm]

/-- What has been applied at the REJECT slot keeps, through the rest of the rise. -/
theorem State.keepsAllBut_fixed {s v : State} {blocks : List Block} (h : s.keepsAllBut v blocks = true)
    (hline : .line ∈ blocks) (hfe : .fe ∈ blocks) :
    s.keepsAllBut (v.setFe { v.fe with outcomeFixed := true }).clockRise blocks = true := by
  refine State.keepsAllBut_trans h (second := [.line, .fe]) ?_ (by simp) (by simp [hline, hfe])
  simp [State.keepsAllBut, Block.all, Block.agrees]

/-- Settles O39: at the REJECT slot the item's attempt is counted, or it ends and the Sync Unit is told. -/
theorem voteOutcomeOfTheSyncUnitsItems : Obligations.VoteOutcomeOfTheSyncUnitsItems := by
  intro s f level item rest len hbus hopen hhold htx hfixed hrole hrx hf hlen hbody hcount hq hin hp retry ended pulled
  obtain ⟨l, e, hexec, htx', hretry⟩ :=
    exec_voteOutcome (level := level) hbus hopen hhold htx hfixed hrole hrx hf hlen hbody hcount
  obtain ⟨v, hv, hfix⟩ := State.fixOutcome_syncItem (s := (s.setLine l).setFe e) hq hin hp
  have hvoting := hv.tx htx'
  rw [hfix] at hexec
  refine ⟨_, hexec, by simpa using hvoting, by simp, ?_⟩
  simp only [State.clockRise_frame, State.setFe_sendQ, State.setFe_sync, State.setFe_port]
  have hended (x : State) (hsync : x.sync = s.sync) (hcontrol : x.control = s.control) :
      x.setSync (x.sync.runEnded (x.control.link = .joining)) = x.setSync ended := by
    simp only [hsync, hcontrol, SyncUnit.runEnded, decide_eq_true_eq]
    rfl
  have hshared (x : State) (hx : x.sendQ = rest) (hsync : x.sync = s.sync) (hnow : x.now = s.now) (hbus : x.onBus = true)
      (o : Outcome) :
      (item.payload = .beacon → (x.toldCompleted item.payload.kind o).sendQ = rest ∧
        (x.toldCompleted item.payload.kind o).sync = s.sync) ∧
      (item.payload = .pull → (x.toldCompleted item.payload.kind o).sendQ = pulled ∧
        (x.toldCompleted item.payload.kind o).sync = { s.sync with pullList := [] }) := by
    refine ⟨fun h => ?_, fun h => ?_⟩
    · rw [h, Payload.kind, State.toldCompleted_beacon]
      exact ⟨hx, hsync⟩
    · rw [h]
      have hdue : x.someDue = s.someDue := by simp only [State.someDue, hsync, hnow]
      refine ⟨?_, by simp [Payload.kind, State.toldCompleted_pull, hsync]⟩
      exact (State.toldCompleted_pull_sendQ hbus o).trans (by rw [hdue, hx]; rfl)
  cases hv with
  | attempt hr hn =>
    have hr' : retry = false := hretry.symm.trans hr
    refine ⟨fun _ _ => ⟨by simp, fun h => ?_, fun h => ?_, fun h => ?_, State.keepsAllBut_fixed ?_ (by simp) (by simp)⟩,
      fun _ h => by omega, fun h => absurd h (by simp [hr']), fun h => ?_⟩
    · rw [h]
      rfl
    · rw [h]
      rfl
    · rw [h]
      exact State.toldReturned_pull _
    · simp [State.keepsAllBut, Block.all, Block.agrees]
    · rcases h with h | h
      · exact absurd h (by simp [hr'])
      · omega
  | undelivered hr hn x hx =>
    have hr' : retry = false := hretry.symm.trans hr
    have hsync : x.sync = s.sync := by simp [← hx]
    have hxq : x.sendQ = rest := by simp [← hx]
    have hcontrol : x.control = s.control := by simp [← hx]
    refine ⟨fun _ h => by omega, fun _ _ => ⟨?_, fun h => ?_, State.keepsAllBut_fixed ?_ (by simp) (by simp)⟩,
      fun h => absurd h (by simp [hr']), fun _ => ?_⟩
    · have hport : (x.toldCompleted item.payload.kind .undelivered).port = x.port := by simp
      rw [hport, ← hx]
      rcases hp with h | h | h <;> simp [h, Payload.undeliveredNotice, Payload.kind, FrameKind.reason, HostPort.setNotices]
    · rw [h, Payload.kind, State.toldCompleted_digest_ends (.inl rfl), hended x hsync hcontrol]
      exact ⟨hxq, rfl⟩
    · refine State.keepsAllBut_trans (t := x) (first := [.line, .fe, .sendQ, .port]) ?_ (x.toldCompleted_keeps _ _)
        (by simp) (by simp)
      simp [← hx, State.keepsAllBut, Block.all, Block.agrees]
    · exact hshared x hxq hsync (by simp [← hx]) ((State.onBus_congr hcontrol).trans hbus) _
  | completed hr o ho x hx =>
    have hr' : retry = true := hretry.symm.trans hr
    have hsync : x.sync = s.sync := by simp [← hx]
    have hxq : x.sendQ = rest := by simp [← hx]
    have hcontrol : x.control = s.control := by simp [← hx]
    have hxbus : x.onBus = true := (State.onBus_congr hcontrol).trans hbus
    refine ⟨fun h => absurd h (by simp [hr']), fun h => absurd h (by simp [hr']),
      fun _ => ⟨State.keepsAllBut_fixed ?_ (by simp) (by simp), fun h hstop => ?_, fun stop h hstop hne => ?_⟩, fun _ => ?_⟩
    · refine State.keepsAllBut_trans (t := x) (first := [.line, .fe, .sendQ]) ?_ (x.toldCompleted_keeps _ _)
        (by simp) (by simp)
      simp [← hx, State.keepsAllBut, Block.all, Block.agrees]
    · rw [h, Payload.kind, State.toldCompleted_digest_ends (.inr (hsync ▸ hstop)), hended x hsync hcontrol]
      exact ⟨hxq, rfl⟩
    · rw [h]
      have hnext := State.toldCompleted_digest_next hxbus ho (hsync ▸ hstop) hne
      rwa [hsync, hxq] at hnext
    · exact hshared x hxq hsync (by simp [← hx]) hxbus o

end Sys2Proof.Machine
end

section
/-! SUPPORT, SETTLES O57. An operation cut short, the move to FROZEN and out of it, and the supply watch. -/

namespace Sys2Proof.Machine

/-! ### The operation cut short (R149) -/

/-- R149: what becomes of the operation itself, before a request that waits is dropped. -/
def State.opAbandoned (s : State) : State :=
  match s.store.engine.op with
  | some (.commit tag _ _ _ _) => s.cutEngine.setStoreState tag .dirty
  | some (.configWrite _) => s.cutEngine.answer .storeFailed []
  | some (.wipe pair _) =>
    (s.cutEngine.setPairMap (s.cutEngine.store.pairMap.modify pair PairMapEntry.spoil)).answer .storeFailed []
  | some (.incarnation _ _) => s.cutEngine
  | none => s.cutEngine

/-- R164: a request not yet started ends without writing. -/
def State.dropRequest (s : State) : State :=
  match s.store.request with
  | some _ => (s.setStore { s.store with request := none }).answer .storeFailed []
  | none => s

theorem State.abandonOp_eq (s : State) : s.abandonOp = s.opAbandoned.dropRequest := rfl

/-- The store without its request; the table and the notices stay, and so does a port that is not WORKING. -/
theorem State.dropRequest_drops (s : State) : s.dropRequest.store = { s.store with request := none } ∧
    s.dropRequest.table = s.table ∧ s.dropRequest.port.notices = s.port.notices ∧
    (s.port.state ≠ .working → s.dropRequest.port = s.port) := by
  unfold State.dropRequest
  split
  · have hsame (h : s.port.state ≠ .working) (y : RetainedStore) :
        ((s.setStore y).answer .storeFailed []).port = s.port := by
      rw [State.answer_other (s.setStore y) _ _ h, State.setStore_port]
    exact ⟨by simp, by simp, by simp, fun h => hsame h _⟩
  · rename_i h
    exact ⟨by rw [← h], rfl, rfl, fun _ => rfl⟩

theorem State.cutEngine_free {s : State} (h : s.store.engine.op = none) : s.cutEngine = s := by
  simp [State.cutEngine, h]

/-- R149: the write engine stops; of the store, the array and the engine alone change. -/
theorem State.cutEngine_store (s : State) : s.cutEngine.store =
    { s.store with array := s.cutEngine.store.array, engine := s.cutEngine.store.engine } := by
  unfold State.cutEngine
  split <;> rfl

/-- R149, R148, R164: from `s` to `t` the write engine has abandoned what it carried. -/
structure OpCut (s t : State) : Prop where
  op : t.store.engine.op = none
  request : t.store.request = none
  commitQ : t.store.commitQ = s.store.commitQ
  free : s.store.engine.op = none → t.store.array = s.store.array ∧ t.table = s.table
  commit : ∀ tag pair target image changed, s.store.engine.op = some (.commit tag pair target image changed) →
    t.store.pairMap = s.store.pairMap ∧ ∀ u : Tag, t.table.find u = (s.table.find u).map fun e =>
      if u = tag then { e with storeState := .dirty } else e
  wipe : ∀ pair all, s.store.engine.op = some (.wipe pair all) → t.table = s.table ∧
    ∀ k : Nat, t.store.pairMap[k]? = (s.store.pairMap[k]?).map fun m =>
      if k = pair then { m with condA := .invalid, condB := .invalid, newest := none } else m

/-- The store state of a held record is set, and no other entry changes. -/
theorem State.setStoreState_find (s : State) (tag : Tag) (st : StoreState) (u : Tag) :
    (s.setStoreState tag st).table.find u =
      (s.table.find u).map fun e => if u = tag then { e with storeState := st } else e := by
  cases he : s.table.find tag with
  | none =>
    have hnone : s.setStoreState tag st = s := by simp [State.setStoreState, State.modifyEntry, he]
    rw [hnone]
    by_cases hu : u = tag
    · simp [hu, he]
    · simp [hu]
  | some e =>
    rw [State.setStoreState, s.modifyEntry_find tag _ e he (RecordTable.find_tag he : e.tag = tag)]
    by_cases hu : u = tag
    · simp [hu, he]
    · simp [hu]

theorem State.opAbandoned_commitQ (s : State) : s.opAbandoned.store.commitQ = s.store.commitQ := by
  have hcut : s.cutEngine.store.commitQ = s.store.commitQ := by rw [s.cutEngine_store]
  unfold State.opAbandoned
  split <;> simpa using hcut

theorem State.abandonOp_cut (s : State) : OpCut s s.abandonOp := by
  obtain ⟨hstore, htable, -⟩ := s.opAbandoned.dropRequest_drops
  rw [← s.abandonOp_eq] at hstore htable
  have hpairMap : s.cutEngine.store.pairMap = s.store.pairMap := by rw [s.cutEngine_store]
  refine ⟨s.abandonOp_op, by rw [hstore], by rw [hstore]; exact s.opAbandoned_commitQ, fun h => ?_,
    fun tag pair target image changed h => ?_, fun pair all h => ?_⟩
  · rw [hstore, htable]
    simp [State.opAbandoned, h, State.cutEngine_free h]
  · have hdirty : s.opAbandoned = s.cutEngine.setStoreState tag .dirty := by simp only [State.opAbandoned, h]
    rw [hstore, htable, hdirty]
    exact ⟨by simpa using hpairMap, fun u => by simpa using s.cutEngine.setStoreState_find tag .dirty u⟩
  · have hspoilt : s.opAbandoned = (s.cutEngine.setPairMap
        (s.cutEngine.store.pairMap.modify pair PairMapEntry.spoil)).answer .storeFailed [] := by
      simp only [State.opAbandoned, h]
    rw [hstore, htable, hspoilt]
    refine ⟨by simp, fun k => ?_⟩
    simp only [State.answer_frame, State.setPairMap_store, hpairMap, List.getElem?_modify, eq_comm (a := pair)]
    cases s.store.pairMap[k]? with
    | none => rfl
    | some m => by_cases hk : k = pair <;> simp [hk, PairMapEntry.spoil]

/-- R164: an answer that the cut makes posts nothing, and finds a port that is WORKING or none. -/
theorem State.abandonOp_port (s : State) : s.abandonOp.port.notices = s.port.notices ∧
    (s.port.state ≠ .working → s.abandonOp.port = s.port) := by
  obtain ⟨-, -, hnotices, hport⟩ := s.opAbandoned.dropRequest_drops
  have hcut : s.opAbandoned.port.notices = s.port.notices ∧ (s.port.state ≠ .working → s.opAbandoned.port = s.port) := by
    have hanswer (u : State) (hu : u.port = s.port) : (u.answer .storeFailed []).port.notices = s.port.notices ∧
        (s.port.state ≠ .working → (u.answer .storeFailed []).port = s.port) := by
      refine ⟨by simp [hu], fun h => ?_⟩
      rw [State.answer_other _ _ _ (by rwa [hu]), hu]
    unfold State.opAbandoned
    split
    · simp
    · exact hanswer _ (by simp)
    · exact hanswer _ (by simp)
    · simp
    · simp
  rw [← s.abandonOp_eq] at hnotices hport
  refine ⟨hnotices.trans hcut.1, fun h => ?_⟩
  have hsame := hcut.2 h
  exact (hport (by rwa [hsame])).trans hsame

/-! ### The frame cut (R88) -/

theorem FrameEngine.outcomeOpen_eq_false_of {f : FrameEngine}
    (h : f.tx = .idle ∨ f.tx = .waiting ∨ (f.tx = .voting ∧ f.outcomeFixed = true)) : f.outcomeOpen = false := by
  rcases h with h | h | ⟨h, hfixed⟩ <;> simp [FrameEngine.outcomeOpen, *]

theorem State.cutFrame_kept {s : State} (h : s.fe.outcomeOpen = false) : s.cutFrame = s.leaveFrame := by
  simp [State.cutFrame, h]

theorem State.cutFrame_empty {s : State} (h : s.sendQ = []) : s.cutFrame = s.leaveFrame := by
  have hreturn : s.returnItem = s := by simp [State.returnItem, h]
  simp [State.cutFrame, hreturn]

/-- R88, R98: the item whose outcome is open is WAITING again, and the Sync Unit is told. -/
theorem State.cutFrame_returns {s : State} {item : SendItem} {rest : List SendItem} (hopen : s.fe.outcomeOpen = true)
    (hq : s.sendQ = item :: rest) (hin : item.inFlight = true) :
    s.cutFrame.sendQ = { item with inFlight := false } :: rest ∧
      (item.payload ≠ .pull → s.cutFrame.sync.wanted = s.sync.wanted) ∧
      (item.payload = .pull → s.cutFrame.sync.wanted = s.sync.wanted.map fun w =>
        if w.tag ∈ s.sync.pullList then { w with asks := w.asks - 1, nextAsk := s.now } else w) := by
  have hcut : s.cutFrame =
      ((s.setSendQ ({ item with inFlight := false } :: rest)).toldReturned item.payload.kind).leaveFrame := by
    simp [State.cutFrame, hopen, State.returnItem_head hq hin]
  rw [hcut]
  refine ⟨by simp, fun hp => ?_, fun hp => ?_⟩
  · by_cases hd : item.payload = .digest
    · rw [hd]
      simp [Payload.kind, State.toldReturned_digest]
    · simp [State.toldReturned_other _ hd hp]
  · simp only [hp, Payload.kind, State.leaveFrame_frame, State.toldReturned_pull]
    rfl

/-- R123, R129: what the Sync Unit is told of a return leaves the run going. -/
theorem State.cutFrame_runActive (s : State) : s.cutFrame.sync.runActive = s.sync.runActive := by
  have htold (u : State) (k : FrameKind) : (u.toldReturned k).sync.runActive = u.sync.runActive := by
    cases k <;> rfl
  unfold State.cutFrame State.returnItem
  (repeat' split) <;> simp [htold]

/-! ### The move to FROZEN (R164) -/

/-- R164: the move to FROZEN when no quiesce waits. -/
def State.freeze (s : State) : State :=
  let cut := ((s.cutFrame.setFe .initial).setLine s.cutFrame.line.restart).abandonOp
  let stopped := cut.setSync cut.sync.stopTimers
  (stopped.setControl { stopped.control with
    returnState := stopped.control.link.returnFrom
    watch := .low
    filter := 0 }).move .frozen .supplyLow

/-- R164: a waiting quiesce completes first. -/
theorem State.toFrozen_eq (s : State) :
    s.toFrozen = (if s.control.quiesceWaiting then s.completeQuiesce else s).freeze := rfl

theorem State.freeze_control (s : State) : s.freeze.control = { s.control with
    link := .frozen, reason := .supplyLow, returnState := s.control.link.returnFrom, watch := .low, filter := 0 } := by
  simp [State.freeze, State.move]

theorem State.freeze_blocks (s : State) : s.freeze.line = s.line.restart ∧ s.freeze.fe = .initial ∧
    s.freeze.sendQ = s.cutFrame.sendQ ∧ s.freeze.sync = s.cutFrame.sync.stopTimers := by
  simp [State.freeze]

theorem State.freeze_cut (s : State) : OpCut s s.freeze := by
  obtain ⟨hop, hrequest, hcommitQ, hfree, hcommit, hwipe⟩ :=
    ((s.cutFrame.setFe .initial).setLine s.cutFrame.line.restart).abandonOp_cut
  simp only [State.setLine_store, State.setLine_table, State.setFe_store, State.setFe_table, State.cutFrame_frame]
    at hcommitQ hfree hcommit hwipe
  exact ⟨by simpa [State.freeze] using hop, by simpa [State.freeze] using hrequest, by simpa [State.freeze] using hcommitQ,
    by simpa [State.freeze] using hfree, by simpa [State.freeze] using hcommit, by simpa [State.freeze] using hwipe⟩

theorem State.freeze_port (s : State) :
    s.freeze.port.notices = postInto s.port.notices ⟨.link, none, none, none, some .supplyLow⟩ ∧
      (s.port.state ≠ .working → s.freeze.port.state = s.port.state ∧ s.freeze.port.response = s.port.response) := by
  obtain ⟨hnotices, hport⟩ := ((s.cutFrame.setFe .initial).setLine s.cutFrame.line.restart).abandonOp_port
  simp only [State.setLine_port, State.setFe_port, State.cutFrame_frame] at hnotices hport
  refine ⟨?_, fun h => ?_⟩
  · simp [State.freeze, State.move, HostPort.setNotices, hnotices, Notice.link]
  · simp [State.freeze, State.move, HostPort.setNotices, hport h]

/-! ### A waiting quiesce completed (R161) -/

theorem State.completeQuiesce_quiesces (s : State) : s.completeQuiesce.control.link = .quiesced ∧
    s.completeQuiesce.control.quiesceWaiting = false ∧ s.completeQuiesce.sendQ = [] ∧
    s.completeQuiesce.sync.wanted = [] ∧
    s.completeQuiesce.port.notices = postInto s.port.notices ⟨.link, none, none, none, some .hostRequest⟩ := by
  simp [State.completeQuiesce, State.toQuiesced, State.move, SyncUnit.clear, HostPort.setNotices, Notice.link]

theorem State.completeQuiesce_answers {s : State} (h : s.port.state = .working) :
    s.completeQuiesce.port.state = .ready ∧ s.completeQuiesce.port.response = some ⟨.ok, []⟩ := by
  have hworking (c : Control) : ((s.toQuiesced .hostRequest).setControl c).port.state = .working := by
    simpa [State.toQuiesced, State.move, HostPort.setNotices] using h
  rw [State.completeQuiesce, State.answer_working _ _ _ (hworking _)]
  exact ⟨rfl, rfl⟩

/-! ### Into JOINING (R119, R121) -/

theorem State.enterJoining_sync (s : State) : s.enterJoining.sync =
    { s.sync.enterJoining s.now s.control.ownPeriod with digestQueued := s.enterJoining.sync.digestQueued } := by
  simp only [State.enterJoining, State.claimPull_frame]
  rw [State.claimDigest_sync]
  simp

/-- R119: the DIGEST claim and then the PULL claim add at most their items. -/
theorem State.enterJoining_sendQ (s : State) : ∃ more, s.enterJoining.sendQ = s.sendQ ++ more ∧
    ∀ x ∈ more, x = ⟨.digest, false, 0⟩ ∨ x = ⟨.pull, false, 0⟩ := by
  have hdigest (u : State) : u.claimDigest.sendQ = u.sendQ ∨ u.claimDigest.sendQ = u.sendQ ++ [⟨.digest, false, 0⟩] := by
    rw [u.claimDigest_sendQ]
    split_ifs
    · exact u.append_extends (by simp)
    · exact .inl rfl
  have hpull (u : State) : u.claimPull.sendQ = u.sendQ ∨ u.claimPull.sendQ = u.sendQ ++ [⟨.pull, false, 0⟩] := by
    rw [u.claimPull_sendQ]
    split_ifs
    · exact u.append_extends (by simp)
    · exact .inl rfl
  obtain ⟨u, hu, hq⟩ : ∃ u : State, s.enterJoining = u.claimDigest.claimPull ∧ u.sendQ = s.sendQ := ⟨_, rfl, rfl⟩
  rw [hu]
  rcases hpull u.claimDigest with hp | hp <;> rcases hdigest u with hd | hd <;> rw [hp, hd, hq]
  · exact ⟨[], by simp, by simp⟩
  · exact ⟨[⟨.digest, false, 0⟩], rfl, by simp⟩
  · exact ⟨[⟨.pull, false, 0⟩], rfl, by simp⟩
  · exact ⟨[⟨.digest, false, 0⟩, ⟨.pull, false, 0⟩], by simp, by simp⟩

/-! ### SUPPLY_LOW and SUPPLY_GOOD (R163 to R166) -/

/-- The state in which PFAIL has this level. -/
def State.withPfail (s : State) (asserted : Bool) : State :=
  { s with pfailPin := asserted }

@[simp] theorem State.withPfail_frame (s : State) (asserted : Bool) :
    (s.withPfail asserted).pending = s.pending ∧ (s.withPfail asserted).now = s.now ∧
      (s.withPfail asserted).free = s.free ∧ (s.withPfail asserted).resetPin = s.resetPin ∧
      (s.withPfail asserted).pfailPin = asserted ∧ (s.withPfail asserted).control = s.control ∧
      (s.withPfail asserted).line = s.line ∧ (s.withPfail asserted).fe = s.fe ∧
      (s.withPfail asserted).table = s.table ∧ (s.withPfail asserted).sendQ = s.sendQ ∧
      (s.withPfail asserted).sync = s.sync ∧ (s.withPfail asserted).store = s.store ∧
      (s.withPfail asserted).port = s.port ∧ (s.withPfail asserted).reports = s.reports := by
  simp [State.withPfail]

theorem State.withPfail_keeps (s : State) (asserted : Bool) : s.keepsAllBut (s.withPfail asserted) [.pins] = true := by
  simp [State.keepsAllBut, Block.all, Block.agrees]

section SupplyLow
variable {s : State}

/-- R164, R166: a supply-low is taken in every link state but START and FROZEN. -/
theorem exec_supplyLow_taken (hwatch : s.control.watch = .good) (hlink : s.control.link = .quiesced ∨
    s.control.link = .joining ∨ s.control.link = .active ∨ s.control.link = .faulted) :
    exec (.supplyLow true) s = .next (s.withPfail true).takeSupplyLow := by
  refine congrArg Host.Outcome.next ?_
  rcases hlink with h | h | h | h <;> simp [hwatch, h, State.withPfail]

theorem exec_supplyLow_start (hwatch : s.control.watch = .good) (hlink : s.control.link = .start) :
    exec (.supplyLow true) s = .next ((s.withPfail true).setWatch .low) := by
  refine congrArg Host.Outcome.next ?_
  simp [hwatch, hlink, State.withPfail]

/-- R156, R164: without a configuration in force the action is FREEZE. -/
theorem Control.action_freeze {c : Control} (h : ∀ cfg, c.config = some cfg → cfg.action = .freeze) :
    c.action = .freeze := by
  unfold Control.action
  split
  · rename_i f hf
    exact h f hf
  · rfl

theorem State.takeSupplyLow_freeze (h : s.control.action = .freeze) : s.takeSupplyLow =
    (if s.control.quiesceWaiting then s.completeQuiesce else s).freeze := by
  rw [State.takeSupplyLow, h, ← State.toFrozen_eq]

theorem State.takeSupplyLow_restart (h : s.control.action = .restart) : s.takeSupplyLow = s.startCuttingOp := by
  rw [State.takeSupplyLow, h]

theorem exec_supplyGood_frozen (hwatch : s.control.watch = .low) (hlink : s.control.link = .frozen) :
    exec (.supplyGood true) s = .next (s.withPfail false).leaveFrozen := by
  refine congrArg Host.Outcome.next ?_
  simp [hwatch, hlink, State.withPfail]

theorem exec_supplyGood_start (hwatch : s.control.watch = .low) (hlink : s.control.link = .start) :
    exec (.supplyGood true) s = .next ((s.withPfail false).setWatch .good) := by
  refine congrArg Host.Outcome.next ?_
  simp [hwatch, hlink, State.withPfail]

/-- R163: a level that has not lasted is an edge of PFAIL. -/
theorem exec_supply_edge (s : State) (asserted : Bool) :
    exec (if asserted then .supplyLow false else .supplyGood false) s = .next (s.pfailEdge asserted) := by
  cases asserted <;> rfl

theorem State.pfailEdge_same {asserted : Bool} (h : s.pfailPin = asserted) : s.pfailEdge asserted = s := by
  simp [State.pfailEdge, h]

theorem State.pfailEdge_edge {asserted : Bool} (h : s.pfailPin ≠ asserted) :
    s.pfailEdge asserted = (s.withPfail asserted).setControl { s.control with filter := 0 } := by
  simp [State.pfailEdge, h, State.withPfail]

end SupplyLow

/-! ### Out of FROZEN (R165) -/

section Frozen
variable {s : State}

theorem State.leaveFrozen_quiesced (h : s.control.returnState = .quiesced) : s.leaveFrozen =
    (s.setControl { s.control with returnState := .none, watch := .good, filter := 0 }).move .quiesced .supplyGood := by
  simp [State.leaveFrozen, h]

/-- R165, R119: before the entry into JOINING the transmit machine follows the queue that FROZEN kept. -/
theorem State.leaveFrozen_joining (h : s.control.returnState = .joining) : ∃ u : State, s.leaveFrozen = u.enterJoining ∧
    u.control = { s.control with
      link := .joining, reason := .supplyGood, returnState := .none, watch := .good, filter := 0 } ∧
    u.sendQ = s.sendQ ∧ u.sync = s.sync ∧ u.now = s.now ∧
    u.port.notices = postInto s.port.notices ⟨.link, none, none, none, some .supplyGood⟩ ∧
    s.keepsAllBut u [.control, .fe, .port] = true := by
  simp only [State.leaveFrozen, h]
  refine ⟨_, rfl, rfl, rfl, rfl, rfl, rfl, ?_⟩
  simp [State.keepsAllBut, Block.all, Block.agrees]

theorem State.enterJoining_keeps (s : State) : s.keepsAllBut s.enterJoining [.fe, .sendQ, .sync, .reports] = true := by
  simp [State.keepsAllBut, Block.all, Block.agrees]

end Frozen

/-- Settles O57: FREEZE and RESTART both cut the operation in progress; FROZEN keeps the Send Queue and the Wanted Set, and the
entry into JOINING goes on with them. -/
theorem supplyWatchFreezesAndRestores : Obligations.SupplyWatchFreezesAndRestores := by
  refine ⟨fun s hwatch => ⟨fun hwaiting hlink haction => ?_, fun hwaiting hlink haction => ?_,
    fun cfg hlink hcfg haction => ?_, fun hlink => ?_⟩, fun s hwatch => ⟨fun hlink hback => ?_, fun hlink hback => ?_,
    fun hlink => ?_⟩, fun s asserted => ?_, fun s htakes => ?_⟩
  · have hexec := exec_supplyLow_taken hwatch hlink
    rw [State.takeSupplyLow_freeze (s := s.withPfail true) (Control.action_freeze haction),
      if_neg (by simpa using hwaiting)] at hexec
    have hcontrol := (s.withPfail true).freeze_control
    obtain ⟨hline, hfe, hsendQ, hsync⟩ := (s.withPfail true).freeze_blocks
    obtain ⟨hop, hrequest, hcommitQ, hfree, hcommit, hwipe⟩ := (s.withPfail true).freeze_cut
    obtain ⟨hnotices, -⟩ := (s.withPfail true).freeze_port
    refine ⟨_, hexec, ?_, ?_, ?_, ?_, ?_, hline, hfe, fun htx => ?_, fun item rest htx hq hin => ?_, ?_, ?_, ?_, ?_, hop,
      hrequest, hcommitQ, hfree, hcommit, hwipe, hnotices, ?_⟩
    · rw [hcontrol]
    · rw [hcontrol]
    · rw [hcontrol]
      rcases hlink with h | h | h | h <;> simp [h, LinkState.returnFrom]
    · rw [hcontrol]
    · simp [State.freeze]
    · have hclosed : (s.withPfail true).fe.outcomeOpen = false := FrameEngine.outcomeOpen_eq_false_of htx
      rw [hsendQ, hsync, State.cutFrame_kept hclosed]
      exact ⟨by simp, by simp [SyncUnit.stopTimers]⟩
    · obtain ⟨hq', hother, hpull⟩ := State.cutFrame_returns (s := s.withPfail true)
        (FrameEngine.outcomeOpen_of htx) hq hin
      rw [hsendQ, hsync]
      exact ⟨hq', hother, hpull⟩
    · rw [hsync]; rfl
    · rw [hsync]; rfl
    · rw [hsync]; rfl
    · rw [hsync]
      exact (s.withPfail true).cutFrame_runActive
    · simp [State.freeze, State.keepsAllBut, Block.all, Block.agrees]
  · have hexec := exec_supplyLow_taken hwatch (.inr hlink)
    rw [State.takeSupplyLow_freeze (s := s.withPfail true) (Control.action_freeze haction),
      if_pos (by simpa using hwaiting)] at hexec
    obtain ⟨hquiesced, hended, hempty, hwanted, hposted⟩ := (s.withPfail true).completeQuiesce_quiesces
    have hcontrol := (s.withPfail true).completeQuiesce.freeze_control
    obtain ⟨-, -, hsendQ, hsync⟩ := (s.withPfail true).completeQuiesce.freeze_blocks
    obtain ⟨hnotices, hport⟩ := (s.withPfail true).completeQuiesce.freeze_port
    rw [State.cutFrame_empty hempty] at hsendQ hsync
    refine ⟨_, hexec, ?_, ?_, ?_, ?_, ?_, fun hworking => ?_, ?_⟩
    · rw [hcontrol]
    · rw [hcontrol, hquiesced]
      rfl
    · rw [hcontrol, hended]
    · simpa [hempty] using hsendQ
    · rw [hsync]
      simpa [SyncUnit.stopTimers] using hwanted
    · obtain ⟨hready, hok⟩ := State.completeQuiesce_answers (s := s.withPfail true) hworking
      obtain ⟨hstate, hresponse⟩ := hport (by simp [hready])
      exact ⟨hstate.trans hready, hresponse.trans hok⟩
    · rw [hnotices, hposted]
      rfl
  · have hexec := exec_supplyLow_taken hwatch hlink
    have hrestart : (s.withPfail true).control.action = .restart := by
      simp [Control.action, hcfg, haction]
    rw [State.takeSupplyLow_restart hrestart] at hexec
    obtain ⟨hstart, hop⟩ := (s.withPfail true).startCuttingOp_enters
    obtain ⟨-, -, -, -, hcommit, hwipe⟩ := (s.withPfail true).abandonOp_cut
    obtain ⟨p, hp⟩ := hstart.port
    refine ⟨_, hexec, ?_, ?_, ?_, hstart.sendQ, hop, hstart.commitQ, hcommit, hwipe, ?_, ?_, ?_, ?_⟩
    · rw [hstart.control]
    · rw [hstart.control]
    · rw [hstart.control]
      rfl
    · rw [hstart.control]
      exact hcfg
    · rw [hp]; rfl
    · rw [hp]; rfl
    · rw [hp]; rfl
  · exact ⟨_, exec_supplyLow_start hwatch hlink, rfl, by simp [State.keepsAllBut, Block.all, Block.agrees]⟩
  · have hexec := exec_supplyGood_frozen hwatch hlink
    obtain ⟨u, hu, hcontrol, hq, hsync, hnow, hnotices, hk⟩ := State.leaveFrozen_joining (s := s.withPfail false) hback
    rw [hu] at hexec
    have hperiod : u.control.ownPeriod = s.control.ownPeriod := by rw [hcontrol]; rfl
    have hjoined := u.enterJoining_sync
    rw [hsync, hnow, hperiod] at hjoined
    refine ⟨_, hexec, by simpa using hcontrol, by rw [hjoined]; rfl, by rw [hjoined]; rfl, by rw [hjoined]; rfl, ?_,
      by rw [hjoined]; rfl, by simpa using hnotices, ?_⟩
    · obtain ⟨more, hmore, hkinds⟩ := u.enterJoining_sendQ
      exact ⟨more, by rw [hmore, hq]; rfl, hkinds⟩
    · have hleft := State.keepsAllBut_trans (s.withPfail_keeps false) hk (changed := [.pins, .control, .fe, .port])
        (by simp) (by simp)
      exact State.keepsAllBut_trans hleft u.enterJoining_keeps (by simp) (by simp)
  · have hexec := exec_supplyGood_frozen hwatch hlink
    rw [State.leaveFrozen_quiesced (s := s.withPfail false) hback] at hexec
    refine ⟨_, hexec, rfl, rfl, ?_⟩
    simp [State.keepsAllBut, Block.all, Block.agrees]
  · exact ⟨_, exec_supplyGood_start hwatch hlink, rfl, rfl, by simp [State.keepsAllBut, Block.all, Block.agrees]⟩
  · refine ⟨_, exec_supply_edge s asserted, ?_⟩
    by_cases h : s.pfailPin = asserted
    · rw [State.pfailEdge_same h]
      exact ⟨h, rfl, fun _ => rfl, fun hne => absurd h hne⟩
    · rw [State.pfailEdge_edge h]
      refine ⟨rfl, rfl, fun heq => absurd heq h, fun _ => ⟨rfl, ?_⟩⟩
      simp [State.keepsAllBut, Block.all, Block.agrees]
  · have hport : s.port.state = .idle ∨ s.port.state = .ready := by simpa [State.takesRequest] using htakes
    have hexec : exec (.restart []) s = .next ((s.taken 0x0D#8 []).startKeepingOp .command) :=
      congrArg Host.Outcome.next (s.request_taken 0x0D#8 [] true false _ hport)
    obtain ⟨hstart, -⟩ := (s.taken 0x0D#8 []).startKeepingOp_enters .command
    exact ⟨_, hexec, by rw [hstart.control]; rfl, by rw [hstart.control], by simp⟩

end Sys2Proof.Machine
end

section
/-! SUPPORT, SETTLES O49. The beacon timer and the silence timers. -/

namespace Sys2Proof.Machine

section Timers
variable {s : State}

/-- R93, R96: a BEACON is placed at the head, or directly behind an IN_FLIGHT head. -/
theorem State.append_beacon_sendQ (hbus : s.onBus = true) : (s.append .beacon).sendQ =
    if (findItem s.sendQ .beacon).isSome ∨ 16 ≤ s.sendQ.length then s.sendQ
    else match s.sendQ with
      | [] => [⟨.beacon, false, 0⟩]
      | h :: rest => if h.inFlight then h :: ⟨.beacon, false, 0⟩ :: rest else ⟨.beacon, false, 0⟩ :: h :: rest := by
  have hplaced : s.appendAnswer .beacon = .placed ↔
      ¬((findItem s.sendQ .beacon).isSome ∨ 16 ≤ s.sendQ.length) := by
    simp [State.appendAnswer_placed_iff, hbus, maxItems]
  obtain ⟨ha, happend⟩ | ⟨ha, happend⟩ := s.append_cases .beacon
  · rw [happend, State.setQueue_sendQ, if_neg (hplaced.1 ha)]
    cases s.sendQ <;> rfl
  · rw [happend, if_pos (not_not.1 (mt hplaced.2 ha))]

/-- R121: with no run active, no DIGEST is claimed. -/
theorem State.claimDigest_of_inactive (h : s.sync.runActive = false) : s.claimDigest = s := by
  simp [State.claimDigest, h]

theorem hasRun_some (time : Nat) : hasRun (some time) = decide (0 < time) := rfl

/-- R113: of the claims behind the expiry, the BEACON's alone is made with no run active and no entry due. -/
theorem exec_beaconTimer_beacon {time : Nat} (hbus : s.onBus = true) (htimer : s.sync.beaconTimer = some time)
    (htime : 0 < time) (hrun : s.sync.runActive = false) (hdue : s.someDue = false) :
    exec .beaconTimer s = .next ((s.setSync { s.sync with beaconTimer := some 0 }).append .beacon) := by
  have hcond : (s.onBus && hasRun s.sync.beaconTimer) = true := by simp [hbus, htimer, hasRun_some, htime]
  refine congrArg Host.Outcome.next ((if_pos hcond).trans ?_)
  rw [State.claimDigest_of_inactive (by simpa using hrun), State.claimPull_of_not_due]
  simpa [State.someDue] using hdue

theorem exec_silenceTimeout {id : StationId} {p : PeerEntry} {time : Nat} (hbus : s.onBus = true)
    (hp : s.sync.peer id = some p) (hpresent : p.silent = false) (htimer : p.timer = some time) :
    exec (.silenceTimeout id) s = .next (if 0 < time then
      (s.setSync (s.sync.modifyPeer id fun p => { p with silent := true, timer := none })).post (.peer .peerLost id)
      else s) := by
  refine congrArg Host.Outcome.next ?_
  simp [hp, hbus, hpresent, htimer, hasRun_some]

end Timers

/-- Settles O49: both expiries act only on a timer that has run; the one claims the BEACON's place, the other takes the peer's
entry. -/
theorem beaconAndSilenceTimers : Obligations.BeaconAndSilenceTimers := by
  constructor
  · intro s time hbus htimer htime hrun hnone
    have hdue : s.someDue = false := by
      rw [Bool.eq_false_iff]
      exact fun h => (s.someDue_iff.1 h).elim fun w ⟨hw, hd⟩ => hnone w hw hd
    refine ⟨_, exec_beaconTimer_beacon hbus htimer htime hrun hdue, by simp, ?_, ?_⟩
    · simp [State.keepsAllBut, Block.all, Block.agrees]
    · exact State.append_beacon_sendQ (s := s.setSync _) hbus
  · intro s id p time hbus hp hpresent htimer
    have hexec := exec_silenceTimeout hbus hp hpresent htimer
    refine ⟨fun hzero => ?_, fun htime => ?_⟩
    · simpa [hzero] using hexec
    · rw [if_pos htime] at hexec
      refine ⟨_, hexec, ?_, rfl, ?_⟩
      · simp [SyncUnit.modifyPeer]
      · simp [State.keepsAllBut, Block.all, Block.agrees]

end Sys2Proof.Machine
end

section
/-! SUPPORT, SETTLES O53. The moves between JOINING, ACTIVE and FAULTED. -/

namespace Sys2Proof.Machine

/-! ### Into FAULTED (R55, R89, R111, R134) -/

/-- The reports have no part in the return of an item. -/
theorem State.returnItem_setReports (s : State) (r : Reports) :
    (s.setReports r).returnItem = s.returnItem.setReports r := by
  unfold State.returnItem
  rw [State.setReports_sendQ]
  split
  · rename_i item rest _
    split_ifs
    · cases item.payload <;> rfl
    · rfl
  · rfl

theorem State.reportPartEnded_eq (s : State) : ∃ r : Reports, s.reportPartEnded = s.setReports r := by
  unfold State.reportPartEnded
  split_ifs
  · exact ⟨_, rfl⟩
  · exact ⟨s.reports, rfl⟩

/-- R88, R89: a frame dropped makes of the item and of the Sync Unit what a frame cut makes of them. -/
theorem State.dropFrame_item (s : State) :
    s.dropFrame.sendQ = s.cutFrame.sendQ ∧ s.dropFrame.sync = s.cutFrame.sync := by
  obtain ⟨r, hr⟩ := s.reportPartEnded_eq
  have hrest (u : State) (b : Bool) : (if b then u.rest else u).sendQ = u.sendQ ∧
      (if b then u.rest else u).sync = u.sync := by
    cases b <;> simp
  by_cases hopen : s.fe.outcomeOpen = true <;>
    simp [State.dropFrame, State.cutFrame, hr, hopen, State.returnItem_setReports, hrest]

/-- R123, R129: what a cut frame leaves of the Sync Unit. -/
theorem State.cutFrame_run (s : State) :
    s.cutFrame.sync.cursor = s.sync.cursor ∧ s.cutFrame.sync.roster = s.sync.roster := by
  have htold (u : State) (k : FrameKind) :
      (u.toldReturned k).sync.cursor = u.sync.cursor ∧ (u.toldReturned k).sync.roster = u.sync.roster := by
    cases k <;> exact ⟨rfl, rfl⟩
  unfold State.cutFrame State.returnItem
  (repeat' split) <;> simp [htold]

theorem State.toFaulted_control (s : State) :
    s.toFaulted.control = { s.control with link := .faulted, reason := .busStuck } := by
  simp [State.toFaulted, State.move]

theorem State.toFaulted_blocks (s : State) : s.toFaulted.line = { s.line.release with right := false } ∧
    s.toFaulted.sendQ = s.cutFrame.sendQ ∧ s.toFaulted.sync = s.cutFrame.sync.stopTimers ∧
    s.toFaulted.port.notices = postInto s.port.notices (.link .busStuck) := by
  obtain ⟨hq, hsync⟩ := s.dropFrame_item
  simp [State.toFaulted, State.move, State.releaseLines, HostPort.setNotices, hq, hsync]

theorem State.toFaulted_keeps (s : State) :
    s.keepsAllBut s.toFaulted [.control, .line, .fe, .sendQ, .sync, .port, .reports] = true := by
  simp [State.keepsAllBut, Block.all, Block.agrees]

/-- Settles O53: BUS_STUCK cuts what the station sends and stops the Sync Unit's timers, BUS_RECOVERED is an entry into JOINING,
and JOIN_COMPLETE moves the link alone. -/
theorem lineAndJoinReportsMoveTheLink : Obligations.LineAndJoinReportsMoveTheLink := by
  intro s
  refine ⟨fun hbus => ?_, fun hlink => ?_, fun hlink => ?_, fun hbus => ?_, fun hlink => ?_, fun hlink => ?_⟩
  · refine ⟨_, congrArg Host.Outcome.next (if_pos hbus), ?_⟩
    generalize { s.reports with busStuck := false } = r
    obtain ⟨hline, hq, hsync, hnotices⟩ := (s.setReports r).toFaulted_blocks
    obtain ⟨hcursor, hroster⟩ := (s.setReports r).cutFrame_run
    rw [hq, hsync]
    refine ⟨State.toFaulted_control _, by rw [hline]; rfl, by rw [hline]; rfl, rfl, rfl, rfl,
      (s.setReports r).cutFrame_runActive, hcursor, congrArg (List.map _) hroster, fun htx => ?_,
      fun item rest htx hhead hin => ?_, hnotices,
      State.keepsAllBut_trans (s.keepsAllBut_setReports r) (State.toFaulted_keeps _) (by simp) (by simp)⟩
    · rw [State.cutFrame_kept (FrameEngine.outcomeOpen_eq_false_of (by simpa using htx))]
      simp [SyncUnit.stopTimers]
    · exact State.cutFrame_returns (FrameEngine.outcomeOpen_of (by simpa using htx)) hhead hin
  · refine ⟨_, congrArg Host.Outcome.next (if_pos hlink), ?_⟩
    generalize { s.reports with busRecovered := false } = r
    have hmove : s.keepsAllBut ((s.setReports r).move .joining .busRecovered) [.control, .port, .reports] = true := by
      simp [State.keepsAllBut, Block.all, Block.agrees]
    have hsync := ((s.setReports r).move .joining .busRecovered).enterJoining_sync
    refine ⟨by simp [State.move], by rw [hsync]; rfl, by rw [hsync]; rfl, by rw [hsync]; rfl, by rw [hsync]; rfl,
      State.enterJoining_sendQ _, by rw [hsync]; rfl, by simp [State.move, HostPort.setNotices, Notice.link],
      State.keepsAllBut_trans hmove (State.enterJoining_keeps _) (by simp) (by simp)⟩
  · refine ⟨_, congrArg Host.Outcome.next (if_pos hlink), rfl, rfl, rfl, ?_⟩
    simp [State.keepsAllBut, Block.all, Block.agrees]
  · exact ⟨_, congrArg Host.Outcome.next (if_neg (by simpa using hbus)), s.keepsAllBut_setReports _⟩
  · exact ⟨_, congrArg Host.Outcome.next (if_neg hlink), s.keepsAllBut_setReports _⟩
  · exact ⟨_, congrArg Host.Outcome.next (if_neg hlink), s.keepsAllBut_setReports _⟩

end Sys2Proof.Machine
end

section
/-! SUPPORT, SETTLES O48. The answers to a PULL and to a DIGEST: PUBLISH items at the tail of the Send Queue. -/

namespace Sys2Proof.Machine

/-! ### Replies at the tail of the Send Queue (R93, R94) -/

/-- An item stays queued while the queue only grows at its tail. -/
theorem findItem_isSome_of_prefix {q q' : List SendItem} {p : Payload} (h : q <+: q')
    (hq : (findItem q p).isSome = true) : (findItem q' p).isSome = true := by
  obtain ⟨more, rfl⟩ := h
  unfold findItem at hq ⊢
  rw [List.find?_append, Option.isSome_or, hq, Bool.true_or]

theorem findItem_append_self (q : List SendItem) (p : Payload) : (findItem (q ++ [⟨p, false, 0⟩]) p).isSome = true := by
  have hself : p.sameItem p = true := by
    cases p with
    | publish tag again => exact beq_self_eq_true tag
    | pull | digest | beacon => rfl
  simp [findItem, hself]

theorem State.claimPublish_grows (s : State) (tag : Tag) : s.sendQ <+: (s.claimPublish tag).sendQ ∧
    (s.claimPublish tag).sendQ.length ≤ s.sendQ.length + 1 := by
  obtain hq | hq := s.append_extends (p := .publish tag false) (by simp)
  · rw [State.claimPublish, hq]
    exact ⟨List.prefix_rfl, by omega⟩
  · rw [State.claimPublish, hq]
    exact ⟨List.prefix_append _ _, by simp⟩

/-- R93, R94: with room in the queue, a reply is queued behind its claim. -/
theorem State.claimPublish_queued {s : State} {tag : Tag} (hbus : s.onBus = true) (hroom : s.sendQ.length < 16) :
    (findItem (s.claimPublish tag).sendQ (.publish tag false)).isSome = true := by
  have happend : (s.claimPublish tag).sendQ = _ := State.append_sendQ s (p := .publish tag false) (by simp)
  rw [happend]
  cases hq : findItem s.sendQ (.publish tag false) with
  | none =>
    rw [if_pos ⟨hbus, rfl, hroom⟩]
    exact findItem_append_self _ _
  | some item => simp [hq]

/-- What a walk over tags queues: it grows the queue at the tail, and where the room that it starts with covers every step, the
item of each asked tag is queued. -/
theorem foldl_queues {step : State → Tag → State} {room : State → List Tag → Prop} {asked : Tag → Prop}
    (hstep : ∀ s tag rest, room s (tag :: rest) → room (step s tag) rest ∧ s.sendQ <+: (step s tag).sendQ ∧
      (asked tag → (findItem (step s tag).sendQ (.publish tag false)).isSome = true))
    (tags : List Tag) (s : State) (h : room s tags) : s.sendQ <+: (tags.foldl step s).sendQ ∧
      ∀ tag ∈ tags, asked tag → (findItem (tags.foldl step s).sendQ (.publish tag false)).isSome = true := by
  induction tags generalizing s with
  | nil => simp
  | cons first rest ih =>
    obtain ⟨hroom, hgrows, hqueued⟩ := hstep s first rest h
    obtain ⟨hrest, hasked⟩ := ih _ hroom
    refine ⟨hgrows.trans hrest, fun tag htag ha => ?_⟩
    rcases List.mem_cons.1 htag with rfl | htag
    · exact findItem_isSome_of_prefix hrest (hqueued ha)
    · exact hasked tag htag ha

/-! ### The sender heard (R109) -/

theorem State.rosterHeard_wanted (s : State) (sender : StationId) :
    (s.rosterHeard sender).sync.wanted = s.sync.wanted := by
  unfold State.rosterHeard
  (repeat' split) <;> simp [SyncUnit.modifyPeer]

theorem State.rosterHeard_onBus (s : State) (sender : StationId) : (s.rosterHeard sender).onBus = s.onBus :=
  State.onBus_congr (by simp)

/-! ### PULL (R130) -/

theorem State.pullTag_sendQ (s : State) (tag : Tag) : (s.pullTag tag).sendQ =
    if (s.table.find tag).isSome then (s.claimPublish tag).sendQ else s.sendQ := by
  unfold State.pullTag
  split_ifs <;> rfl

/-- R130: pull suppression for one tag. -/
theorem State.pullTag_wanted (s : State) (tag : Tag) : (s.pullTag tag).sync.wanted = s.sync.wanted.map fun w =>
    if w.tag = tag then { w with nextAsk := s.now + s.control.ownPeriod } else w := by
  unfold State.pullTag
  split_ifs <;> simp

theorem State.answerPull_wanted (s : State) (f : PullContent) : (s.answerPull f).sync.wanted = s.sync.wanted.map fun w =>
    if w.tag ∈ f.tags then { w with nextAsk := s.now + s.control.ownPeriod } else w := by
  unfold State.answerPull
  generalize f.tags = tags
  induction tags generalizing s with
  | nil => simp
  | cons tag rest ih =>
    rw [List.foldl_cons, ih, State.pullTag_wanted, List.map_map]
    refine List.map_congr_left fun w _ => ?_
    by_cases htag : w.tag = tag <;> by_cases hrest : w.tag ∈ rest <;> simp_all

/-- R130: the room a PULL needs: on the bus, a place for each tag still to be answered. -/
structure PullRoom (table : RecordTable) (s : State) (tags : List Tag) : Prop where
  onBus : s.onBus = true
  sameTable : s.table = table
  places : s.sendQ.length + tags.length ≤ 16

theorem PullRoom.step {table : RecordTable} {s : State} {tag : Tag} {rest : List Tag} (h : PullRoom table s (tag :: rest)) :
    PullRoom table (s.pullTag tag) rest ∧ s.sendQ <+: (s.pullTag tag).sendQ ∧
      ((table.find tag).isSome = true → (findItem (s.pullTag tag).sendQ (.publish tag false)).isSome = true) := by
  obtain ⟨hbus, rfl, hplaces⟩ := h
  rw [List.length_cons] at hplaces
  have hbus' : (s.pullTag tag).onBus = true := (State.onBus_congr (by simp)).trans hbus
  have hq := s.pullTag_sendQ tag
  cases hheld : (s.table.find tag).isSome with
  | false =>
    rw [hheld, if_neg (by simp)] at hq
    exact ⟨⟨hbus', by simp, by rw [hq]; omega⟩, by rw [hq], by simp⟩
  | true =>
    rw [hheld, if_pos rfl] at hq
    obtain ⟨hprefix, hlen⟩ := s.claimPublish_grows tag
    exact ⟨⟨hbus', by simp, by rw [hq]; omega⟩, by rwa [hq], fun _ => hq ▸ State.claimPublish_queued hbus (by omega)⟩

theorem State.answerPull_queued {s : State} {f : PullContent} (hbus : s.onBus = true)
    (hroom : s.sendQ.length + f.tags.length ≤ 16) {tag : Tag} (htag : tag ∈ f.tags)
    (hheld : (s.table.find tag).isSome = true) :
    (findItem (s.answerPull f).sendQ (.publish tag false)).isSome = true :=
  (foldl_queues (room := PullRoom s.table) (fun _ _ _ => PullRoom.step) f.tags s ⟨hbus, rfl, hroom⟩).2 tag htag hheld

/-! ### The tags of a DIGEST (R125) -/

theorem mem_insertTag {tag u : Tag} {l : List Tag} : u ∈ insertTag tag l ↔ u = tag ∨ u ∈ l := by
  induction l with
  | nil => simp [insertTag]
  | cons x rest ih =>
    unfold insertTag
    split_ifs with hlt heq
    · simp
    · have : tag = x := by simpa using heq
      simp [this]
    · simp only [List.mem_cons, ih]
      tauto

theorem insertTag_ascends {tag : Tag} {l : List Tag} (h : l.Pairwise (·.toNat < ·.toNat)) :
    (insertTag tag l).Pairwise (·.toNat < ·.toNat) := by
  induction l with
  | nil => simp [insertTag]
  | cons x rest ih =>
    obtain ⟨hx, hrest⟩ := List.pairwise_cons.1 h
    unfold insertTag
    split_ifs with hlt heq
    · refine List.pairwise_cons.2 ⟨fun y hy => ?_, h⟩
      rcases List.mem_cons.1 hy with rfl | hy
      · exact hlt
      · exact hlt.trans (hx y hy)
    · exact h
    · refine List.pairwise_cons.2 ⟨fun y hy => ?_, ih hrest⟩
      have hne : x.toNat ≠ tag.toNat := fun hc => heq (by simp [BitVec.eq_of_toNat_eq hc])
      rcases mem_insertTag.1 hy with rfl | hy
      · omega
      · exact hx y hy

theorem mem_foldr_insertTag {tags : List Tag} {u : Tag} : u ∈ tags.foldr insertTag [] ↔ u ∈ tags := by
  induction tags with
  | nil => simp
  | cons tag rest ih => simp [mem_insertTag, ih]

theorem foldr_insertTag_ascends (tags : List Tag) : (tags.foldr insertTag []).Pairwise (·.toNat < ·.toNat) := by
  induction tags with
  | nil => simp
  | cons tag rest ih => exact insertTag_ascends ih

/-- R125: no tag of a DIGEST is compared twice. -/
theorem State.digestTags_nodup (s : State) (f : DigestContent) : (s.digestTags f).Nodup :=
  (foldr_insertTag_ascends _).imp fun hlt heq => by simp [heq] at hlt

theorem RecordTable.mem_tags_of_find {t : RecordTable} {tag : Tag} (h : (t.find tag).isSome = true) :
    tag ∈ t.entries.map (·.tag) := by
  obtain ⟨e, he⟩ := Option.isSome_iff_exists.1 h
  exact List.mem_map.2 ⟨e, List.mem_of_find?_eq_some he, RecordTable.find_tag he⟩

theorem State.mem_digestTags {s : State} {f : DigestContent} {tag : Tag} (h : (s.table.find tag).isSome = true)
    (hstart : f.start.toNat ≤ tag.toNat) (hstop : tag.toNat ≤ f.stop.toNat) : tag ∈ s.digestTags f := by
  have hmem := RecordTable.mem_tags_of_find h
  simp only [State.digestTags, mem_foldr_insertTag, RecordTable.tagsIn, List.mem_append, List.mem_filter]
  exact .inr ⟨hmem, by simp [hstart, hstop]⟩

/-- R125: of the tags compared, those held are no more than the table's entries. -/
theorem State.digestTags_held (s : State) (f : DigestContent) :
    ((s.digestTags f).filter fun tag => (s.table.find tag).isSome).length ≤ s.table.entries.length := by
  have hsub : ((s.digestTags f).filter fun tag => (s.table.find tag).isSome) ⊆ s.table.entries.map (·.tag) :=
    fun tag htag => RecordTable.mem_tags_of_find (List.mem_filter.1 htag).2
  simpa using (((s.digestTags_nodup f).filter _).subperm hsub).length_le

/-! ### DIGEST (R125, Table 62) -/

/-- R126, R127: a wanted tag adds at most the PULL item, where none is queued. -/
theorem State.enterWanted_sendQ (s : State) (tag : Tag) (pair : OrderPair) : (s.enterWanted tag pair).sendQ = s.sendQ ∨
    ((findItem s.sendQ .pull).isSome = false ∧ (s.enterWanted tag pair).sendQ = s.sendQ ++ [⟨.pull, false, 0⟩]) := by
  unfold State.enterWanted
  split_ifs
  · exact .inl rfl
  · rw [State.claimPull_sendQ, State.append_sendQ _ (by simp)]
    split_ifs with hdue hplaced
    · exact .inr ⟨by simpa using hplaced.2.1, rfl⟩
    · exact .inl rfl
    · exact .inl rfl
  · exact .inl rfl

/-- Table 62: the record asked for: held, and not listed or listed with an earlier pair. -/
def RecordTable.asked (t : RecordTable) (listed : List Listed) (tag : Tag) : Prop :=
  ∃ e, t.find tag = some e ∧ ∀ l ∈ listed, l.tag = tag → e.pair.later l.pair = true

theorem State.digestTag_asked {s : State} {listed : List Listed} {tag : Tag} (h : s.table.asked listed tag) :
    s.digestTag listed tag = s.claimPublish tag := by
  obtain ⟨e, he, hlater⟩ := h
  unfold State.digestTag
  rw [he]
  cases hl : listed.find? (fun l => l.tag == tag) with
  | none => rfl
  | some l =>
    have hpair := hlater l (List.mem_of_find?_eq_some hl) (by simpa using List.find?_some hl)
    have hne : ¬l.pair = e.pair := fun hc => by simp [hc, OrderPair.later_self] at hpair
    simp [OrderPair.later_asymm hpair, hne]

/-- Table 62: the comparison of one tag: nothing, a wanted tag, or a reply for a held one. -/
theorem State.digestTag_cases (s : State) (listed : List Listed) (tag : Tag) : s.digestTag listed tag = s ∨
    (∃ pair, s.digestTag listed tag = s.enterWanted tag pair) ∨
    ((s.table.find tag).isSome = true ∧ s.digestTag listed tag = s.claimPublish tag) := by
  unfold State.digestTag
  split
  · exact .inr (.inl ⟨_, rfl⟩)
  · rename_i hheld
    split_ifs
    · exact .inr (.inl ⟨_, rfl⟩)
    · exact .inl rfl
    · exact .inr (.inr ⟨by simp [hheld], rfl⟩)
  · rename_i hheld
    exact .inr (.inr ⟨by simp [hheld], rfl⟩)
  · exact .inl rfl

/-- R127: the place that a PULL item may still take. -/
def pullPlace (q : List SendItem) : Nat :=
  if (findItem q .pull).isSome then 0 else 1

theorem pullPlace_le_one (q : List SendItem) : pullPlace q ≤ 1 := by
  unfold pullPlace
  split_ifs <;> omega

theorem pullPlace_le_of_prefix {q q' : List SendItem} (h : q <+: q') : pullPlace q' ≤ pullPlace q := by
  cases hq : (findItem q .pull).isSome with
  | true => simp [pullPlace, findItem_isSome_of_prefix h hq]
  | false => simpa [pullPlace, hq] using pullPlace_le_one q'

/-- Table 62: a tag compared takes the place of the PULL item or, held, one of its own. -/
theorem State.digestTag_grows (s : State) (listed : List Listed) (tag : Tag) :
    s.sendQ <+: (s.digestTag listed tag).sendQ ∧
      (s.digestTag listed tag).sendQ.length + pullPlace (s.digestTag listed tag).sendQ ≤
        s.sendQ.length + pullPlace s.sendQ + if (s.table.find tag).isSome then 1 else 0 := by
  obtain hd | ⟨pair, hd⟩ | ⟨hheld, hd⟩ := s.digestTag_cases listed tag
  · rw [hd]
    exact ⟨List.prefix_rfl, by omega⟩
  · rw [hd]
    obtain hq | ⟨hnone, hq⟩ := s.enterWanted_sendQ tag pair
    · rw [hq]
      exact ⟨List.prefix_rfl, by omega⟩
    · have hpull : pullPlace (s.sendQ ++ [⟨.pull, false, 0⟩]) = 0 := by simp [pullPlace, findItem_append_self]
      have hfree : pullPlace s.sendQ = 1 := by simp [pullPlace, hnone]
      rw [hq, hpull, hfree, List.length_append, List.length_singleton]
      exact ⟨List.prefix_append _ _, by omega⟩
  · obtain ⟨hprefix, hlen⟩ := s.claimPublish_grows tag
    have hplace := pullPlace_le_of_prefix hprefix
    rw [hd, hheld, if_pos rfl]
    exact ⟨hprefix, by omega⟩

/-- R125: the room a DIGEST needs: on the bus, a place for the PULL item and one for each held tag still to be
compared. -/
structure DigestRoom (table : RecordTable) (s : State) (tags : List Tag) : Prop where
  onBus : s.onBus = true
  sameTable : s.table = table
  places : s.sendQ.length + pullPlace s.sendQ + (tags.filter fun tag => (table.find tag).isSome).length ≤ 16

theorem DigestRoom.step {table : RecordTable} {listed : List Listed} {s : State} {tag : Tag} {rest : List Tag}
    (h : DigestRoom table s (tag :: rest)) : DigestRoom table (s.digestTag listed tag) rest ∧
      s.sendQ <+: (s.digestTag listed tag).sendQ ∧ (table.asked listed tag →
        (findItem (s.digestTag listed tag).sendQ (.publish tag false)).isSome = true) := by
  obtain ⟨hbus, rfl, hplaces⟩ := h
  have hbus' : (s.digestTag listed tag).onBus = true := (State.onBus_congr (by simp)).trans hbus
  have hfilter : ((tag :: rest).filter fun tag => (s.table.find tag).isSome).length =
      (rest.filter fun tag => (s.table.find tag).isSome).length + if (s.table.find tag).isSome then 1 else 0 := by
    rw [List.filter_cons]
    split_ifs <;> simp
  rw [hfilter] at hplaces
  obtain ⟨hprefix, hlen⟩ := s.digestTag_grows listed tag
  refine ⟨⟨hbus', by simp, by omega⟩, hprefix, fun hasked => ?_⟩
  rw [State.digestTag_asked hasked]
  obtain ⟨e, he, -⟩ := hasked
  rw [he, Option.isSome_some, if_pos rfl] at hplaces
  exact State.claimPublish_queued hbus (by omega)

theorem State.compareDigest_queued {s : State} {f : DigestContent} (hbus : s.onBus = true)
    (hroom : s.sendQ.length + s.table.entries.length < 16) {tag : Tag} (htag : tag ∈ s.digestTags f)
    (hasked : s.table.asked f.listed tag) :
    (findItem (s.compareDigest f).sendQ (.publish tag false)).isSome = true := by
  have hheld := s.digestTags_held f
  have hpull := pullPlace_le_one s.sendQ
  obtain ⟨-, hqueued⟩ := foldl_queues (room := DigestRoom s.table) (fun _ _ _ => DigestRoom.step) (s.digestTags f) s
    ⟨hbus, rfl, by omega⟩
  exact hqueued tag htag hasked

/-- Settles O48: each reply takes one place, and the PULL item that a DIGEST may add takes one more. -/
theorem askedRecordsAreQueued : Obligations.AskedRecordsAreQueued := by
  intro s hbus hrole hdeciding htx hgood
  constructor
  · intro f hf hform hother
    have hexec := exec_pullFrame hbus hrole hdeciding htx hf
    rw [State.decideOther_handed (c := .pull f) _ hgood hform hother] at hexec
    refine ⟨_, hexec, rfl, ?_, fun hroom tag htag hheld => ?_, ?_⟩
    · simp [State.keepsAllBut, Block.all, Block.agrees]
    · have h := State.answerPull_queued (s := s.rosterHeard f.sender) (f := f)
        ((s.rosterHeard_onBus f.sender).trans hbus) (by simpa using hroom) htag (by simpa using hheld)
      simpa using h
    · simp [State.answerPull_wanted, State.rosterHeard_wanted]
  · intro f hf hform hother
    have hexec := exec_digestFrame hbus hrole hdeciding htx hf
    rw [State.decideOther_handed (c := .digest f) _ hgood hform hother] at hexec
    refine ⟨_, hexec, fun hroom tag e he hstart hstop hlater => ?_⟩
    have htable : (s.rosterHeard f.sender).table = s.table := by simp
    have h := State.compareDigest_queued (s := s.rosterHeard f.sender) (f := f)
      ((s.rosterHeard_onBus f.sender).trans hbus) (by simpa using hroom)
      (State.mem_digestTags (by simp [he]) hstart hstop) ⟨e, by simpa using he, hlater⟩
    simpa using h

end Sys2Proof.Machine
end

section
/-! SUPPORT. The capacities of the Send Queue, the roster, the Wanted Set and the Notice Queue, and the shared operations that
keep them. -/

namespace Sys2Proof.Machine

/-- R91, R106, R126, R177, R179: the queues and sets hold no more than their capacities, and ATTN is true to the Notice
Queue. -/
structure State.Fits (s : State) : Prop where
  sendQ : s.sendQ.length ≤ maxItems
  roster : s.sync.roster.length ≤ maxPeers
  wanted : s.sync.wanted.length ≤ maxWanted
  notices : s.port.notices.length ≤ maxNotices
  attn : s.port.attn = !s.port.notices.isEmpty

theorem State.queueInv_iff (s : State) : s.queueInv = true ↔ s.Fits := by
  simp only [State.queueInv, Bool.and_eq_true, decide_eq_true_eq, beq_iff_eq]
  constructor
  · rintro ⟨⟨⟨⟨hq, hroster⟩, hwanted⟩, hnotices⟩, hattn⟩
    exact ⟨hq, hroster, hwanted, hnotices, hattn⟩
  · rintro ⟨hq, hroster, hwanted, hnotices, hattn⟩
    exact ⟨⟨⟨⟨hq, hroster⟩, hwanted⟩, hnotices⟩, hattn⟩

/-- R126: an entry that takes its place adds one. -/
theorem insertWanted_length (w : WantedEntry) (l : List WantedEntry) : (insertWanted w l).length = l.length + 1 := by
  induction l with
  | nil => rfl
  | cons x rest ih =>
    unfold insertWanted
    split_ifs
    · rfl
    · simp [ih]

/-- R99: an IN_FLIGHT head that leaves makes room for the item of its again mark. -/
theorem afterRemoval_length (onBus : Bool) (item : SendItem) (rest : List SendItem) :
    (afterRemoval onBus item rest).length ≤ rest.length + 1 := by
  unfold afterRemoval
  split
  · split_ifs <;> simp
  · omega

namespace State.Fits

variable {s t : State}

/-! ### Updates of one block -/

/-- The capacities are kept where the Sync Unit's sets and the Send Queue do not grow and the notices stay. -/
theorem of_le (h : s.Fits) (hq : t.sendQ.length ≤ s.sendQ.length) (hroster : t.sync.roster.length ≤ s.sync.roster.length)
    (hwanted : t.sync.wanted.length ≤ s.sync.wanted.length)
    (hport : t.port.notices = s.port.notices ∧ t.port.attn = s.port.attn) : t.Fits := by
  obtain ⟨hnotices, hattn⟩ := hport
  exact ⟨hq.trans h.sendQ, hroster.trans h.roster, hwanted.trans h.wanted, by rw [hnotices]; exact h.notices,
    by rw [hattn, hnotices]; exact h.attn⟩

theorem congr (h : s.Fits) (hq : t.sendQ = s.sendQ) (hsync : t.sync = s.sync)
    (hport : t.port.notices = s.port.notices ∧ t.port.attn = s.port.attn) : t.Fits :=
  h.of_le (by rw [hq]) (by rw [hsync]) (by rw [hsync]) hport

theorem setSendQ (h : s.Fits) {q : List SendItem} (hq : q.length ≤ maxItems) : (s.setSendQ q).Fits :=
  ⟨hq, h.roster, h.wanted, h.notices, h.attn⟩

theorem setQueue (h : s.Fits) {q : List SendItem} (hq : q.length ≤ maxItems) : (s.setQueue q).Fits :=
  ⟨hq, h.roster, h.wanted, h.notices, h.attn⟩

theorem setSync (h : s.Fits) {y : SyncUnit} (hroster : y.roster.length ≤ s.sync.roster.length)
    (hwanted : y.wanted.length ≤ s.sync.wanted.length) : (s.setSync y).Fits :=
  h.of_le le_rfl hroster hwanted ⟨rfl, rfl⟩

/-- R179: ATTN follows the Notice Queue. -/
theorem setNotices (h : s.Fits) {q : List Notice} (hq : q.length ≤ maxNotices) :
    (s.setPort (s.port.setNotices q)).Fits :=
  ⟨h.sendQ, h.roster, h.wanted, hq, rfl⟩

theorem setFe (h : s.Fits) (x : FrameEngine) : (s.setFe x).Fits :=
  h.congr rfl rfl ⟨rfl, rfl⟩

theorem setLine (h : s.Fits) (x : LineIf) : (s.setLine x).Fits :=
  h.congr rfl rfl ⟨rfl, rfl⟩

theorem setReports (h : s.Fits) (x : Reports) : (s.setReports x).Fits :=
  h.congr rfl rfl ⟨rfl, rfl⟩

theorem setStore (h : s.Fits) (x : RetainedStore) : (s.setStore x).Fits :=
  h.congr rfl rfl ⟨rfl, rfl⟩

theorem setControl (h : s.Fits) (x : Control) : (s.setControl x).Fits :=
  h.congr rfl rfl ⟨rfl, rfl⟩

/-! ### Notices and answers (R169, R177) -/

theorem post (h : s.Fits) (n : Notice) : (s.post n).Fits :=
  h.setNotices (postInto_length _ _ h.notices)

theorem postIf (h : s.Fits) (n : Option Notice) : (s.postIf n).Fits := by
  cases n with
  | none => exact h
  | some n => exact h.post n

theorem answer (h : s.Fits) (c : ResultCode) (d : List Byte) : (s.answer c d).Fits :=
  h.congr (by simp) (by simp) (by simp)

theorem noteUnstored (h : s.Fits) (tag : Tag) : (s.noteUnstored tag).Fits := by
  unfold State.noteUnstored
  split
  · split_ifs
    · exact h.post _
    · exact h
  · exact h

/-! ### The Send Queue (R91 to R100) -/

theorem append (h : s.Fits) (p : Payload) : (s.append p).Fits := by
  obtain ⟨ha, happend⟩ | ⟨-, happend⟩ := s.append_cases p
  · obtain ⟨-, -, hroom⟩ := (s.appendAnswer_placed_iff p).1 ha
    rw [happend]
    exact h.setQueue (by rwa [placeItem_length])
  · rwa [happend]

theorem claimWritten (h : s.Fits) (tag : Tag) : (s.claimWritten tag).Fits := by
  unfold State.claimWritten
  split
  · rename_i ha
    obtain ⟨-, -, hroom⟩ := (s.appendAnswer_placed_iff _).1 ha
    exact h.setQueue (by rwa [placeItem_length])
  · exact h.setQueue (by simpa [markAgain] using h.sendQ)
  · exact h

theorem suppress (h : s.Fits) (tag : Tag) : (s.suppress tag).Fits :=
  h.setQueue ((List.length_filter_le _ _).trans h.sendQ)

/-! ### The Sync Unit (R121, R124, R126, R127, R131) -/

theorem claimDigest (h : s.Fits) : s.claimDigest.Fits := by
  have hqueued (u : State) (hu : u.Fits) (hsync : u.sync = s.sync) :
      (u.setSync { s.sync with digestQueued := true }).Fits :=
    hu.setSync (by rw [hsync]) (by rw [hsync])
  unfold State.claimDigest
  split_ifs
  · split
    · exact hqueued _ (h.append .digest) (by simp)
    · exact hqueued _ h rfl
    · exact h
  · exact h

theorem claimPull (h : s.Fits) : s.claimPull.Fits := by
  unfold State.claimPull
  split_ifs
  · exact h.append .pull
  · exact h

theorem startRun (h : s.Fits) : s.startRun.Fits := by
  unfold State.startRun
  split_ifs
  · exact h
  · exact claimDigest (h.setSync le_rfl le_rfl)

theorem testReady (h : s.Fits) : s.testReady.Fits := by
  unfold State.testReady
  split_ifs
  · refine setReports ?_ _
    exact h.setSync le_rfl le_rfl
  · exact h

theorem endRun (h : s.Fits) : s.endRun.Fits :=
  testReady (h.setSync le_rfl le_rfl)

theorem adoptionReport (h : s.Fits) (tag : Tag) (held : OrderPair) : (s.adoptionReport tag held).Fits :=
  testReady (h.setSync le_rfl (List.length_filter_le _ _))

theorem enterWanted (h : s.Fits) (tag : Tag) (pair : OrderPair) : (s.enterWanted tag pair).Fits := by
  unfold State.enterWanted
  split_ifs with hwanted hroom
  · exact h.setSync le_rfl (by simp)
  · refine claimPull ?_
    exact ⟨h.sendQ, h.roster, (insertWanted_length _ _).trans_le hroom, h.notices, h.attn⟩
  · exact h

/-! ### The Frame Engine (R71, R86, R87, R98) -/

theorem rest (h : s.Fits) : s.rest.Fits :=
  h.setFe _

theorem launch (h : s.Fits) {item : SendItem} {rest : List SendItem} (hq : rest.length + 1 ≤ maxItems) (frame : Snapshot) :
    (s.launch item rest frame).Fits :=
  ((h.setSendQ (q := { item with inFlight := true } :: rest) hq).setFe _).setLine _

theorem openItem (h : s.Fits) {item : SendItem} {rest : List SendItem} (hq : rest.length + 1 ≤ maxItems) :
    (s.openItem item rest).Fits := by
  unfold State.openItem
  split
  · split
    · exact h.launch hq _
    · exact h
  · refine launch ?_ hq _
    exact h.setSync le_rfl le_rfl
  · refine launch ?_ hq _
    exact h.setSync le_rfl (by simp)
  · exact h.launch hq _

theorem openHead (h : s.Fits) : s.openHead.Fits := by
  unfold State.openHead
  split
  · exact h
  · rename_i item rest hq
    have hlen : rest.length + 1 ≤ maxItems := by simpa [hq] using h.sendQ
    have hclaimed : (s.setQueue rest).claimPull.Fits := claimPull (h.setQueue (by omega))
    split_ifs
    · dsimp only
      split
      · exact hclaimed
      · rename_i next rest' hq'
        split_ifs
        · exact hclaimed
        · exact hclaimed.openItem (by simpa [hq'] using hclaimed.sendQ)
    · exact h.openItem hlen

theorem toldReturned (h : s.Fits) (kind : FrameKind) : (s.toldReturned kind).Fits := by
  unfold State.toldReturned
  split
  · exact h.setSync le_rfl le_rfl
  · exact h.setSync le_rfl (by simp)
  · exact h
  · exact h

theorem returnItem (h : s.Fits) : s.returnItem.Fits := by
  unfold State.returnItem
  split
  · rename_i item rest hq
    split_ifs
    · exact toldReturned (h.setSendQ (by simpa [hq] using h.sendQ)) _
    · exact h
  · exact h

theorem digestCompleted (h : s.Fits) (o : Outcome) : (s.digestCompleted o).Fits := by
  have hsync (y : SyncUnit) (hroster : y.roster = s.sync.roster) (hwanted : y.wanted = s.sync.wanted) :
      (s.setSync y).Fits :=
    h.setSync (by rw [hroster]) (by rw [hwanted])
  unfold State.digestCompleted
  split
  · exact endRun (hsync _ rfl rfl)
  · split
    · split_ifs
      · exact endRun (hsync _ rfl rfl)
      · exact claimDigest (hsync _ rfl rfl)
    · exact claimDigest (hsync _ rfl rfl)

theorem toldCompleted (h : s.Fits) (kind : FrameKind) (o : Outcome) : (s.toldCompleted kind o).Fits := by
  cases kind with
  | publish | beacon => exact h
  | pull => exact claimPull (h.setSync le_rfl le_rfl)
  | digest => exact h.digestCompleted o

theorem complete (h : s.Fits) (o : Outcome) : (s.complete o).Fits := by
  have hclear (u : State) (hu : u.Fits) (tag : Tag) (captured : Option OrderPair) : (u.clearUnsent tag captured).Fits :=
    hu.congr (by simp) (by simp) (by simp)
  unfold State.complete
  split
  · rename_i item rest hq
    have hlen : rest.length + 1 ≤ maxItems := by simpa [hq] using h.sendQ
    have hremoved := h.setSendQ ((afterRemoval_length s.onBus item rest).trans hlen)
    split_ifs
    · refine toldCompleted (postIf ?_ _) _ _
      split
      · exact hclear _ hremoved _ _
      · exact hclear _ hremoved _ _
      · exact hremoved
    · exact h
  · exact h

theorem countAttempt (h : s.Fits) : s.countAttempt.Fits := by
  unfold State.countAttempt
  split
  · rename_i item rest hq
    have hcounted : (s.setSendQ ({ item with attempts := item.attempts + 1 } :: rest)).Fits :=
      h.setSendQ (by simpa [hq] using h.sendQ)
    split_ifs
    · exact hcounted.returnItem
    · exact hcounted.complete _
    · exact h
  · exact h

theorem fixOutcome (h : s.Fits) : s.fixOutcome.Fits := by
  unfold State.fixOutcome
  refine setFe ?_ _
  split
  · exact h.countAttempt
  · exact h.complete _

theorem applyLateLoss (h : s.Fits) : s.applyLateLoss.Fits := by
  unfold State.applyLateLoss
  split
  · rename_i item rest hq
    have hlen : rest.length + 1 ≤ maxItems := by simpa [hq] using h.sendQ
    split_ifs
    · exact ((h.post _).setSendQ ((afterRemoval_length _ item rest).trans hlen)).rest
    · exact h.rest
  · exact h.rest

theorem lossNotConfirmed (h : s.Fits) : s.lossNotConfirmed.Fits :=
  h.countAttempt.rest.setFe _

theorem endLateLoss (h : s.Fits) : s.endLateLoss.Fits := by
  unfold State.endLateLoss
  split_ifs
  · exact h.applyLateLoss
  · exact (h.setReports _).returnItem.rest
  · exact h.lossNotConfirmed

theorem leaveFrame (h : s.Fits) : s.leaveFrame.Fits :=
  h.congr (by simp) (by simp) (by simp)

theorem abandonFrame (h : s.Fits) : s.abandonFrame.Fits := by
  unfold State.abandonFrame
  refine leaveFrame ?_
  split_ifs
  · exact h.lossNotConfirmed
  · exact h.countAttempt.rest
  · exact h.rest
  · exact h

theorem cutFrame (h : s.Fits) : s.cutFrame.Fits := by
  unfold State.cutFrame
  refine leaveFrame ?_
  split_ifs
  · exact h.returnItem
  · exact h

/-- R89: what a dropped frame makes of the item and of the Sync Unit, a cut frame makes of them. -/
theorem dropFrame (h : s.Fits) : s.dropFrame.Fits := by
  obtain ⟨hq, hsync⟩ := s.dropFrame_item
  exact h.cutFrame.congr hq hsync (by simp)

theorem advanceTx (h : s.Fits) (placed : Option Bool) (bit : Bool) : (s.advanceTx placed bit).Fits := by
  have hreceiver : s.becomeReceiver.Fits := (h.setLine _).setFe _
  simp only [State.advanceTx]
  split
  · split_ifs
    · exact hreceiver.returnItem.rest
    · exact h.setFe _
    · exact h
  · split_ifs
    · exact (hreceiver.setFe _).lossNotConfirmed
    · exact hreceiver.setFe _
    · exact h.setFe _
    · exact h
  · split_ifs
    · exact h.fixOutcome
    · exact h
  · split_ifs
    · exact h.lossNotConfirmed
    · exact h
  · exact h
  · exact h

theorem clockRise (h : s.Fits) : s.clockRise.Fits :=
  h.congr (by simp) (by simp) (by simp)

theorem rise (h : s.Fits) (level : Bool) : (s.rise level).Fits := by
  unfold State.rise
  split_ifs
  · exact h.setLine _
  · exact h
  · exact clockRise (((h.setLine _).setFe _).advanceTx _ _)
  · exact h.setLine _

/-! ### Received frames (R81 to R83, R107 to R109, R115, R125, R130) -/

theorem castVote (h : s.Fits) (v : Vote) : (s.castVote v).Fits :=
  (h.setFe _).setLine _

theorem castNone (h : s.Fits) : s.castNone.Fits :=
  (h.setFe _).setLine _

theorem modifyPeer (h : s.Fits) (id : StationId) (f : PeerEntry → PeerEntry) : (s.setSync (s.sync.modifyPeer id f)).Fits :=
  h.setSync (by simp [SyncUnit.modifyPeer]) le_rfl

theorem rosterBeacon (h : s.Fits) (f : BeaconContent) : (s.rosterBeacon f).Fits := by
  simp only [State.rosterBeacon]
  split
  · split_ifs with hroom
    · refine post ?_ _
      exact ⟨h.sendQ, (insertPeer_perm _ _).length_eq.trans_le hroom, h.wanted, h.notices, h.attn⟩
    · exact h
  · split_ifs
    · exact ((h.modifyPeer _ _).post _).post _
    · exact (h.modifyPeer _ _).post _
    · exact (h.modifyPeer _ _).post _
    · exact h.modifyPeer _ _

theorem compareTables (h : s.Fits) (f : BeaconContent) : (s.compareTables f).Fits := by
  unfold State.compareTables
  split_ifs
  · exact h.startRun
  · exact h

theorem rosterHeard (h : s.Fits) (sender : StationId) : (s.rosterHeard sender).Fits := by
  simp only [State.rosterHeard]
  split
  · exact h
  · split_ifs
    · exact (h.modifyPeer _ _).post _
    · exact h.modifyPeer _ _

/-- What each step of a walk over tags keeps, the walk keeps. -/
theorem foldl (h : s.Fits) {step : State → Tag → State} (hstep : ∀ u tag, u.Fits → (step u tag).Fits) (tags : List Tag) :
    (tags.foldl step s).Fits := by
  induction tags generalizing s with
  | nil => exact h
  | cons tag rest ih => exact ih (hstep s tag h)

theorem compareDigest (h : s.Fits) (f : DigestContent) : (s.compareDigest f).Fits := by
  refine h.foldl (fun u tag hu => ?_) _
  obtain hd | ⟨pair, hd⟩ | ⟨-, hd⟩ := u.digestTag_cases f.listed tag <;> rw [hd]
  · exact hu
  · exact hu.enterWanted tag pair
  · exact hu.append _

theorem answerPull (h : s.Fits) (f : PullContent) : (s.answerPull f).Fits := by
  refine h.foldl (fun u tag hu => ?_) _
  unfold State.pullTag
  split_ifs
  · exact setSync (hu.append _) le_rfl (by simp)
  · exact hu.setSync le_rfl (by simp)

theorem decideOther (h : s.Fits) (c : FrameContent) (sender : StationId) {hand : State → State} (hhand : (hand s).Fits) :
    (s.decideOther c sender hand).Fits := by
  unfold State.decideOther
  split_ifs
  · exact h.castVote _
  · exact h.castVote _
  · exact h.castNone.setReports _
  · exact hhand.castVote _

end State.Fits

end Sys2Proof.Machine
end

section
/-! SUPPORT, SETTLES O5. Every command, and so every step, keeps the capacities. -/

namespace Sys2Proof.Machine

namespace State.Fits

variable {s t : State}

/-! ### The Line Interface -/

theorem openFrame (h : s.Fits) : s.openFrame.Fits :=
  (h.setLine _).setFe _

theorem takeOwnOpening (h : s.Fits) : s.takeOwnOpening.Fits := by
  unfold State.takeOwnOpening
  split_ifs
  · exact h.openFrame
  · exact h

theorem fallInFrame (h : s.Fits) : s.fallInFrame.Fits :=
  h.congr (by simp) (by simp) (by simp)

theorem endForeign (h : s.Fits) : s.endForeign.Fits :=
  h.returnItem.rest

theorem partAtEnd (h : s.Fits) : s.partAtEnd.Fits := by
  unfold State.partAtEnd
  split
  · exact h.endLateLoss
  · split_ifs
    · exact h.rest
    · exact h.endForeign
  · exact h.endForeign
  · exact h.endForeign
  · exact h
  · exact h

theorem rightToOpen (h : s.Fits) : Meets (execRightToOpen s) State.Fits := by
  refine .next ?_
  dsimp only
  split_ifs
  · exact (h.setLine _).openHead
  · exact h.setLine _
  · exact h

theorem openingMark (h : s.Fits) : Meets (execOpeningMark s) State.Fits := by
  refine .next ?_
  split_ifs
  · exact h.setLine _
  · exact h.setLine _
  · exact h.openFrame
  · exact h.setLine _

theorem endMark (h : s.Fits) : Meets (execEndMark s) State.Fits := by
  rw [execEndMark_eq]
  refine .next ?_
  split_ifs
  · exact h.setLine _
  · exact h.setLine _
  · exact (h.setLine _).partAtEnd.leaveFrame
  · exact h.setLine _

theorem holdLimit (h : s.Fits) : Meets (execHoldLimit s) State.Fits := by
  refine .next ?_
  split_ifs
  · exact (h.setLine _).abandonFrame
  · exact h

theorem frameBroken (h : s.Fits) : Meets (execFrameBroken s) State.Fits := by
  refine .next ?_
  dsimp only
  split_ifs
  · exact (h.setLine _).endLateLoss.leaveFrame
  · exact (h.setLine _).leaveFrame
  · exact h

theorem stuckLimit (h : s.Fits) (line : Line) : Meets (execStuckLimit line s) State.Fits := by
  refine .next ?_
  dsimp only
  split_ifs
  · exact (h.setLine _).abandonFrame.setReports _
  · exact (h.setLine _).setReports _
  · exact h

theorem bckFall (h : s.Fits) : Meets (execBckFall s) State.Fits := by
  refine .next ?_
  dsimp only
  split_ifs
  · exact h.setLine _
  · exact h.setLine _
  · exact (h.takeOwnOpening.setLine _).fallInFrame
  · exact (h.takeOwnOpening.setLine _).setLine _
  · exact h.takeOwnOpening.setLine _

/-! ### Received frames of other kinds than PUBLISH, and the Sync Unit's timers -/

theorem beaconFrame (h : s.Fits) : Meets (execBeaconFrame s) State.Fits := by
  refine .next ?_
  split_ifs
  · split
    · exact h.decideOther _ _ ((h.rosterBeacon _).compareTables _)
    · exact h
  · exact h

theorem digestFrame (h : s.Fits) : Meets (execDigestFrame s) State.Fits := by
  refine .next ?_
  split_ifs
  · split
    · exact h.decideOther _ _ ((h.rosterHeard _).compareDigest _)
    · exact h
  · exact h

theorem pullFrame (h : s.Fits) : Meets (execPullFrame s) State.Fits := by
  refine .next ?_
  split_ifs
  · split
    · exact h.decideOther _ _ ((h.rosterHeard _).answerPull _)
    · exact h
  · exact h

theorem beaconTimer (h : s.Fits) : Meets (execBeaconTimer s) State.Fits := by
  refine .next ?_
  split_ifs
  · refine claimPull (claimDigest (append ?_ _))
    exact h.setSync le_rfl le_rfl
  · exact h

theorem silenceTimeout (h : s.Fits) (station : StationId) : Meets (execSilenceTimeout station s) State.Fits := by
  refine .next ?_
  split
  · split_ifs
    · exact (h.modifyPeer _ _).post _
    · exact h
  · exact h

theorem listenWindowEnd (h : s.Fits) : Meets (execListenWindowEnd s) State.Fits := by
  refine .next ?_
  split_ifs
  · have hstarted : (s.setSync { s.sync with listen := none }).startRun.Fits := startRun (h.setSync le_rfl le_rfl)
    exact hstarted.setSync le_rfl le_rfl
  · exact h

theorem settleElapsed (h : s.Fits) : Meets (execSettleElapsed s) State.Fits := by
  refine .next ?_
  split_ifs
  · exact testReady (h.setSync le_rfl le_rfl)
  · exact h

theorem nextAskDue (h : s.Fits) (tag : Tag) : Meets (execNextAskDue tag s) State.Fits := by
  refine .next ?_
  split_ifs
  · refine claimPull ?_
    exact h.setSync le_rfl (by simp)
  · exact h

theorem pullUnanswered (h : s.Fits) (tag : Tag) : Meets (execPullUnanswered tag s) State.Fits := by
  refine .next ?_
  split
  · split_ifs
    · refine testReady (post ?_ _)
      exact h.setSync le_rfl (List.length_filter_le _ _)
    · exact h
  · exact h

/-! ### Every quiet command -/

theorem exec_quiet (h : s.Fits) (c : Instr) (hc : quietCommand c = true) : Meets (exec c s) State.Fits := by
  have hline (b : Bool) (l : LineIf) : (if b then s.setLine l else s).Fits := by
    cases b
    · exact h
    · exact h.setLine l
  have hrise (p : Prop) [Decidable p] (level : Bool) : (if p then s.rise level else s).Fits := by
    split_ifs
    · exact h.rise level
    · exact h
  cases c
  case transactionBegin empty => cases empty <;> exact .next (h.congr rfl rfl ⟨rfl, rfl⟩)
  case quietGap => exact .next (hline _ _)
  case idleLost line => exact .next (hline _ _)
  case rightToOpen => exact h.rightToOpen
  case openingMark => exact h.openingMark
  case arbitrationLoss => exact .next (hrise _ _)
  case lateLoss => exact .next (hrise _ _)
  case beaconFrame => exact h.beaconFrame
  case digestFrame => exact h.digestFrame
  case pullFrame => exact h.pullFrame
  case voteOutcome level => exact .next (hrise _ _)
  case endMark => exact h.endMark
  case holdLimit => exact h.holdLimit
  case frameBroken => exact h.frameBroken
  case stuckLimit line => exact h.stuckLimit line
  case recovery =>
    refine .next ?_
    split_ifs
    · exact (h.setLine _).setReports _
    · exact h
  case resetRelease => exact .next (h.congr rfl rfl ⟨rfl, rfl⟩)
  case beaconTimer => exact h.beaconTimer
  case silenceTimeout station => exact h.silenceTimeout station
  case listenWindowEnd => exact h.listenWindowEnd
  case settleElapsed => exact h.settleElapsed
  case nextAskDue tag => exact h.nextAskDue tag
  case pullUnanswered tag => exact h.pullUnanswered tag
  case bitTaken level => exact .next (h.rise level)
  case bckFall => exact h.bckFall
  case clockHalfEnd => exact .next (hline _ _)
  all_goals cases hc

/-! ### Received PUBLISH frames (R24, R35, R36, R75) -/

theorem adopt (h : s.Fits) (held : Option Entry) (f : PublishContent) : (s.adopt held f).Fits := by
  have hreported (e : Entry) : ((s.changeEntry e).adoptionReport f.tag f.pair).Fits :=
    adoptionReport (h.congr (by simp) (by simp) (by simp)) _ _
  simp only [State.adopt]
  refine noteUnstored ?_ _
  split_ifs
  · exact ((hreported _).post _).post _
  · exact (hreported _).post _
  · exact (hreported _).post _
  · exact hreported _

theorem decidePublish (h : s.Fits) (f : PublishContent) : (s.decidePublish f).Fits := by
  have heffect (c : PublishCase) : (s.publishEffect f c).Fits := by
    cases c with
    | badCheck | malformed => exact h
    | tableFull | attributesDiffer | ownerDiffers | otherValue => exact h.post _
    | created | later => exact (h.adopt _ f).suppress _
    | sameValue => exact h.suppress _
    | earlier => exact h.append _
  exact (heffect _).castVote _

theorem publishFrame (h : s.Fits) : Meets (execPublishFrame s) State.Fits := by
  refine .next ?_
  split
  · split
    · split
      · exact (h.decidePublish _).applyLateLoss
      · exact h.decidePublish _
    · exact h
  · exact h

theorem lateLossConfirmed (h : s.Fits) : Meets (execLateLossConfirmed s) State.Fits := by
  refine .next ?_
  split
  · split
    · split
      · exact (h.decidePublish _).applyLateLoss
      · exact h
    · exact h.castNone.setReports _
    · exact h
  · exact h

/-! ### Moves of the link state (R111, R119, R135, R157, R164) -/

theorem move (h : s.Fits) (link : LinkState) (reason : Reason) : (s.move link reason).Fits :=
  (h.setControl _).post _

theorem enterJoining (h : s.Fits) : s.enterJoining.Fits := by
  refine claimPull (claimDigest (setSync ?_ ?_ ?_))
  · exact (h.setFe _).setReports _
  · simp [SyncUnit.enterJoining]
  · simp [SyncUnit.enterJoining]

theorem stopTimers (h : s.Fits) : (s.setSync s.sync.stopTimers).Fits :=
  h.setSync (by simp [SyncUnit.stopTimers]) le_rfl

theorem toQuiesced (h : s.Fits) (reason : Reason) : (s.toQuiesced reason).Fits := by
  refine setSync (setQueue (move ?_ _ _) (by simp)) ?_ ?_
  · exact h.dropFrame.setLine _
  · simp [SyncUnit.clear, SyncUnit.stopTimers]
  · simp [SyncUnit.clear]

theorem toFaulted (h : s.Fits) : s.toFaulted.Fits :=
  stopTimers (move (h.dropFrame.setLine _) _ _)

theorem completeQuiesce (h : s.Fits) : s.completeQuiesce.Fits :=
  answer ((h.toQuiesced _).setControl _) _ _

/-- R116, R157, R177, R181: an entry to START leaves every queue empty. -/
theorem enterStart (s : State) (cause : StartCause) : (s.enterStart cause).Fits :=
  ⟨Nat.zero_le _, Nat.zero_le _, Nat.zero_le _, Nat.zero_le _, rfl⟩

theorem startKeepingOp (s : State) (cause : StartCause) : (s.startKeepingOp cause).Fits :=
  (enterStart s cause).congr (by simp [State.startKeepingOp]) (by simp [State.startKeepingOp])
    (by simp [State.startKeepingOp])

theorem startCuttingOp (s : State) : s.startCuttingOp.Fits :=
  enterStart _ _

theorem leaveStart (h : s.Fits) : s.leaveStart.Fits := by
  unfold State.leaveStart
  split_ifs
  · have hidle (c : Control) : ((s.setControl c).setPort { s.port with state := .idle }).Fits :=
      h.congr rfl rfl ⟨rfl, rfl⟩
    dsimp only
    split_ifs
    · exact ((hidle _).move _ _).enterJoining
    · exact (hidle _).move _ _
  · exact h

/-- R149, R164: an operation abandoned makes answers alone. -/
theorem abandonOp (h : s.Fits) : s.abandonOp.Fits := by
  have hcut : s.cutEngine.Fits := h.congr (by simp) (by simp) (by simp)
  have hop : s.opAbandoned.Fits := by
    unfold State.opAbandoned
    split
    · exact hcut.congr (by simp) (by simp) (by simp)
    · exact hcut.answer _ _
    · exact answer (hcut.congr (by simp) (by simp) (by simp)) _ _
    · exact hcut
    · exact hcut
  rw [State.abandonOp_eq]
  unfold State.dropRequest
  split
  · exact (hop.setStore _).answer _ _
  · exact hop

theorem toFrozen (h : s.Fits) : s.toFrozen.Fits := by
  have hfreeze (u : State) (hu : u.Fits) : u.freeze.Fits :=
    move (setControl (stopTimers (abandonOp ((hu.cutFrame.setFe _).setLine _))) _) _ _
  rw [State.toFrozen_eq]
  split_ifs
  · exact hfreeze _ h.completeQuiesce
  · exact hfreeze _ h

theorem leaveFrozen (h : s.Fits) : s.leaveFrozen.Fits := by
  simp only [State.leaveFrozen]
  split
  · exact (h.setControl _).move _ _
  · exact (((h.setControl _).move _ _).setFe _).enterJoining

/-! ### Requests (R169) -/

/-- A request keeps the capacities if its owner does. -/
theorem request (h : s.Fits) (code : Byte) (args : List Byte) (sized gated : Bool) (owner : State → State)
    (howner : ∀ t, t.Fits → (owner t).Fits) : (s.request code args sized gated owner).Fits := by
  have htaken : (s.taken code args).Fits := h.congr rfl rfl ⟨rfl, rfl⟩
  obtain ⟨p, hp, -, -, hport⟩ | ⟨-, ⟨c, hc⟩ | ⟨-, ho⟩⟩ := s.request_cases code args sized gated owner
  · rw [hp]
    exact h.congr rfl rfl hport
  · rw [hc]
    exact htaken.answer c []
  · rw [ho]
    exact howner _ htaken

theorem ownerRead (h : s.Fits) (args : List Byte) : (State.ownerRead args s).Fits := by
  unfold State.ownerRead
  (repeat' split) <;> exact h.answer _ _

theorem ownerNext (h : s.Fits) (args : List Byte) : (State.ownerNext args s).Fits := by
  unfold State.ownerNext
  (repeat' split) <;> exact h.answer _ _

theorem ownerWatch (h : s.Fits) (args : List Byte) : (State.ownerWatch args s).Fits := by
  unfold State.ownerWatch
  split
  · split
    · exact h.answer _ _
    · exact answer (h.congr (by simp) (by simp) (by simp)) _ _
  · exact h.answer _ _

theorem ownerWrite (h : s.Fits) (args : List Byte) : (State.ownerWrite args s).Fits := by
  unfold State.ownerWrite
  split
  · exact h.answer _ _
  · split
    · exact h.answer _ _
    · refine answer (noteUnstored (claimWritten ?_ _) _) _ _
      exact h.congr (by simp) (by simp) (by simp)

/-- R180: the oldest notice leaves. -/
theorem ownerNotice (h : s.Fits) : s.ownerNotice.Fits := by
  unfold State.ownerNotice
  split
  · exact h.answer _ _
  · rename_i n rest hn
    have hlen : rest.length + 1 ≤ maxNotices := by simpa [hn] using h.notices
    exact answer (h.setNotices (by omega)) _ _

theorem ownerQuiesce (h : s.Fits) : s.ownerQuiesce.Fits := by
  unfold State.ownerQuiesce
  split
  · exact h.answer _ _
  · exact h.completeQuiesce
  · split_ifs
    · exact (h.setControl _).setReports _
    · exact h.completeQuiesce

theorem ownerResume (h : s.Fits) : s.ownerResume.Fits := by
  unfold State.ownerResume
  split_ifs
  · exact (h.move _ _).enterJoining.answer _ _
  · exact h.answer _ _
  · exact h.answer _ _

theorem ownerConfigWrite (h : s.Fits) (args : List Byte) : (State.ownerConfigWrite args s).Fits := by
  unfold State.ownerConfigWrite
  split
  · split
    · exact h.answer _ _
    · exact h.setStore _
  · exact h.answer _ _

theorem ownerWipe (h : s.Fits) : s.ownerWipe.Fits := by
  unfold State.ownerWipe
  split
  · exact h.setStore _
  · exact h.answer _ _

/-- R170: a fetch takes no notice. -/
theorem fetch (h : s.Fits) (clocked : Nat) : Meets (execFetch clocked s) State.Fits := by
  refine .next ?_
  dsimp only
  split_ifs <;> exact h.congr rfl rfl ⟨rfl, rfl⟩

/-! ### The write engine -/

theorem freeEngine (h : s.Fits) : s.freeEngine.Fits :=
  h.congr rfl rfl ⟨rfl, rfl⟩

theorem nextWipe (h : s.Fits) (pair : Nat) (allFreed : Bool) : (s.nextWipe pair allFreed).Fits := by
  simp only [State.nextWipe]
  split_ifs
  · exact h.congr rfl rfl ⟨rfl, rfl⟩
  · exact h.freeEngine
  · exact h.freeEngine.answer _ _
  · exact h.freeEngine.answer _ _

theorem endCommit (h : s.Fits) (tag : Tag) (changed : Bool) (st : StoreState) : (s.endCommit tag changed st).Fits :=
  h.congr (by simp) (by simp) (by simp)

theorem modifyPair (h : s.Fits) (pair : Nat) (f : PairMapEntry → PairMapEntry) : (s.modifyPair pair f).Fits :=
  h.congr rfl rfl ⟨rfl, rfl⟩

theorem opSucceeds (h : s.Fits) (op : StoreOp) : (s.opSucceeds op).Fits := by
  have hwritten : (s.setArray (s.store.array.written op)).Fits := h.congr rfl rfl ⟨rfl, rfl⟩
  simp only [State.opSucceeds]
  split
  · split_ifs
    · exact (hwritten.modifyPair _ _).freeEngine
    · exact (hwritten.modifyPair _ _).endCommit _ _ _
  · split_ifs
    · exact hwritten.freeEngine
    · exact hwritten.freeEngine.answer _ _
  · exact (hwritten.modifyPair _ _).nextWipe _ _
  · split_ifs
    · exact hwritten.freeEngine
    · exact hwritten.freeEngine.leaveStart

theorem opFails (h : s.Fits) (op : StoreOp) : (s.opFails op).Fits := by
  unfold State.opFails State.opFailsFinally
  split
  · exact h.congr rfl rfl ⟨rfl, rfl⟩
  · split
    · split_ifs
      · exact h.freeEngine
      · exact (h.endCommit _ _ _).post _
    · split_ifs
      · exact h.freeEngine
      · exact h.freeEngine.answer _ _
    · exact (h.modifyPair _ _).nextWipe _ _
    · split_ifs
      · exact h.freeEngine
      · exact (h.freeEngine.post _).leaveStart

theorem writeDone (h : s.Fits) (current good : Bool) : Meets (execWriteDone current good s) State.Fits := by
  refine .next ?_
  split
  · exact h
  · split_ifs
    · exact h
    · exact h.opSucceeds _
    · refine opFails ?_ _
      exact h.congr rfl rfl ⟨rfl, rfl⟩

theorem writeLimit (h : s.Fits) : Meets (execWriteLimit s) State.Fits := by
  refine .next ?_
  split
  · exact h
  · split_ifs
    · exact h
    · refine opFails ?_ _
      exact h.congr rfl rfl ⟨rfl, rfl⟩

theorem commitStart (h : s.Fits) : Meets (execCommitStart s) State.Fits := by
  refine .next ?_
  split_ifs
  · split
    · exact h
    · split
      · exact h.congr (by simp) (by simp) (by simp)
      · refine post ?_ _
        exact h.congr (by simp) (by simp) (by simp)
      · exact h
  · exact h

/-! ### Reports and the supply (R159, R161, R163 to R166) -/

theorem duplicateId (h : s.Fits) : Meets (execDuplicateId s) State.Fits := by
  refine .next ?_
  split_ifs
  · have hquiesced := (h.setReports { s.reports with duplicateId := false }).toQuiesced .duplicateId
    unfold State.endWaiting
    split_ifs
    · exact answer (hquiesced.setControl _) _ _
    · exact hquiesced
  · exact h.setReports _

theorem joinComplete (h : s.Fits) : Meets (execJoinComplete s) State.Fits := by
  refine .next ?_
  dsimp only
  split_ifs
  · exact setSync ((h.setReports _).move _ _) le_rfl le_rfl
  · exact h.setReports _

theorem quiesceComplete (h : s.Fits) : Meets (execQuiesceComplete s) State.Fits := by
  refine .next ?_
  split_ifs
  · exact h.completeQuiesce.setReports _
  · exact h.setReports _

theorem pfailEdge (h : s.Fits) (asserted : Bool) : (s.pfailEdge asserted).Fits := by
  unfold State.pfailEdge
  split_ifs
  · exact h
  · exact h.congr rfl rfl ⟨rfl, rfl⟩

theorem supplyLow (h : s.Fits) (lasting : Bool) : Meets (execSupplyLow s lasting) State.Fits := by
  have hpin : State.Fits { s with pfailPin := true } := h.congr rfl rfl ⟨rfl, rfl⟩
  have hlow : State.Fits (State.takeSupplyLow { s with pfailPin := true }) := by
    unfold State.takeSupplyLow
    split
    · exact hpin.toFrozen
    · exact startCuttingOp _
  refine .next ?_
  split_ifs
  · exact h.pfailEdge true
  · exact hpin
  · split
    · exact hpin.setControl _
    · exact hpin.setControl _
    all_goals exact hlow

theorem supplyGood (h : s.Fits) (lasting : Bool) : Meets (execSupplyGood s lasting) State.Fits := by
  have hpin : State.Fits { s with pfailPin := false } := h.congr rfl rfl ⟨rfl, rfl⟩
  refine .next ?_
  split_ifs
  · exact h.pfailEdge false
  · exact hpin
  · exact hpin.leaveFrozen
  · exact hpin.setControl _

/-! ### Steps -/

theorem exec_keeps (c : Instr) (s : State) (h : s.Fits) : Meets (exec c s) State.Fits := by
  by_cases hq : quietCommand c = true
  · exact h.exec_quiet c hq
  cases c
  case read args => exact .next (h.request _ _ _ _ _ fun t ht => ht.ownerRead args)
  case nextTag args => exact .next (h.request _ _ _ _ _ fun t ht => ht.ownerNext args)
  case write args => exact .next (h.request _ _ _ _ _ fun t ht => ht.ownerWrite args)
  case watch args => exact .next (h.request _ _ _ _ _ fun t ht => ht.ownerWatch args)
  case status args => exact .next (h.request _ _ _ _ _ fun t ht => ht.answer _ _)
  case peers args => exact .next (h.request _ _ _ _ _ fun t ht => ht.answer _ _)
  case notice args => exact .next (h.request _ _ _ _ _ fun t ht => ht.ownerNotice)
  case quiesce args => exact .next (h.request _ _ _ _ _ fun t ht => ht.ownerQuiesce)
  case resume args => exact .next (h.request _ _ _ _ _ fun t ht => ht.ownerResume)
  case configRead args => exact .next (h.request _ _ _ _ _ fun t ht => ht.answer _ _)
  case configWrite args => exact .next (h.request _ _ _ _ _ fun t ht => ht.ownerConfigWrite args)
  case wipe args => exact .next (h.request _ _ _ _ _ fun t ht => ht.ownerWipe)
  case restart args => exact .next (h.request _ _ _ _ _ fun t _ => startKeepingOp t _)
  case notACommandCode code args =>
    refine .next ?_
    split_ifs
    · exact h
    · exact h.request _ _ _ _ _ fun t ht => ht
  case fetch clocked => exact h.fetch clocked
  case publishFrame => exact h.publishFrame
  case lateLossConfirmed => exact h.lateLossConfirmed
  case duplicateId => exact h.duplicateId
  case busStuck =>
    refine .next ?_
    split_ifs
    · exact (h.setReports _).toFaulted
    · exact h.setReports _
  case busRecovered =>
    refine .next ?_
    split_ifs
    · exact ((h.setReports _).move _ _).enterJoining
    · exact h.setReports _
  case joinComplete => exact h.joinComplete
  case quiesceComplete => exact h.quiesceComplete
  case powerUp pfail => exact .next (startCuttingOp _)
  case resetAssert lasting =>
    refine .next ?_
    split
    · exact startKeepingOp _ _
    · split_ifs
      · exact h
      · exact h.congr rfl rfl ⟨rfl, rfl⟩
  case startSequence =>
    refine .next ?_
    split_ifs
    · exact h.of_le (by simp) le_rfl le_rfl (by simp)
    · exact h
  case supplyLow lasting => exact h.supplyLow lasting
  case supplyGood lasting => exact h.supplyGood lasting
  case commitStart => exact h.commitStart
  case configWriteStart =>
    refine .next ?_
    split
    · split_ifs
      · exact h.congr rfl rfl ⟨rfl, rfl⟩
      · exact h
    · exact h
  case wipeStart =>
    refine .next ?_
    split
    · split_ifs
      · exact h.congr rfl rfl ⟨rfl, rfl⟩
      · exact h
    · exact h
  case writeDone current good => exact h.writeDone current good
  case writeLimit => exact h.writeLimit
  all_goals exact absurd rfl hq

/-- R110: a quantum moves the timers of the roster's entries, and adds none. -/
theorem advance (h : s.Fits) : s.advance.Fits :=
  h.of_le le_rfl (by simp [State.advance, SyncUnit.advance]) le_rfl ⟨rfl, rfl⟩

end State.Fits

/-- Settles O5: an item, a peer, a wanted tag or a notice is added where its capacity leaves room, and the rest of every command
only rewrites or removes. -/
theorem capacitiesKept : Obligations.CapacitiesKept := by
  intro s t hs hstep
  rw [State.queueInv_iff] at hs ⊢
  exact (step_preserves (P := State.Fits) (fun s rest h => h.congr rfl rfl ⟨rfl, rfl⟩) (fun _ h => h.advance)
    State.Fits.exec_keeps hs).of_eq hstep

end Sys2Proof.Machine
end

section
/-! SUPPORT, SETTLES O46, O47. What a DIGEST makes of the Wanted Set, and what a DIGEST or a PULL makes of the roster. -/

namespace Sys2Proof.Machine

/-! ### Wanted entries and their pairs (R3, R126) -/

/-- R126: a wanted pair stands for a listed one: it is that pair or a later one. -/
def OrderPair.Covers (p q : OrderPair) : Prop :=
  p = q ∨ p.later q = true

theorem OrderPair.Covers.trans {p q r : OrderPair} (h : p.Covers q) (h' : q.Covers r) : p.Covers r := by
  obtain rfl | h := h
  · exact h'
  · obtain rfl | h' := h'
    · exact .inr h
    · exact .inr (OrderPair.later_trans h h')

/-- R3: of two pairs, the one that is not later is covered by the other. -/
theorem OrderPair.covers_of_not_later {p q : OrderPair} (h : ¬p.later q = true) : q.Covers p := by
  unfold OrderPair.Covers
  rw [OrderPair.later_iff, ← BitVec.toNat_inj] at h
  rw [OrderPair.eq_iff, OrderPair.later_iff, ← BitVec.toNat_inj]
  omega

/-- R126: a wanted entry goes on as another of its tag: with its asks and its next ask, for its pair or a later one. -/
structure WantedEntry.GoesOnAs (w w' : WantedEntry) : Prop where
  tag : w'.tag = w.tag
  asks : w'.asks = w.asks
  nextAsk : w'.nextAsk = w.nextAsk
  pair : w'.pair.Covers w.pair

theorem WantedEntry.GoesOnAs.refl (w : WantedEntry) : w.GoesOnAs w :=
  ⟨rfl, rfl, rfl, .inl rfl⟩

theorem WantedEntry.GoesOnAs.trans {u v w : WantedEntry} (h : u.GoesOnAs v) (h' : v.GoesOnAs w) : u.GoesOnAs w :=
  ⟨h'.tag.trans h.tag, h'.asks.trans h.asks, h'.nextAsk.trans h.nextAsk, h'.pair.trans h.pair⟩

/-- Every entry of the one Wanted Set goes on in the other. -/
def WantedKept (before after : List WantedEntry) : Prop :=
  ∀ w ∈ before, ∃ w' ∈ after, w.GoesOnAs w'

theorem WantedKept.refl (wanted : List WantedEntry) : WantedKept wanted wanted :=
  fun w hw => ⟨w, hw, .refl w⟩

theorem WantedKept.trans {a b c : List WantedEntry} (h : WantedKept a b) (h' : WantedKept b c) : WantedKept a c :=
  fun u hu =>
    have ⟨v, hv, huv⟩ := h u hu
    have ⟨w, hw, hvw⟩ := h' v hv
    ⟨w, hw, huv.trans hvw⟩

/-- The tag is wanted, for the pair or a later one. -/
def WantsPair (wanted : List WantedEntry) (tag : Tag) (pair : OrderPair) : Prop :=
  ∃ w ∈ wanted, w.tag = tag ∧ w.pair.Covers pair

theorem WantsPair.kept {a b : List WantedEntry} {tag : Tag} {pair : OrderPair} (h : WantsPair a tag pair)
    (hkept : WantedKept a b) : WantsPair b tag pair :=
  have ⟨v, hv, htag, hpair⟩ := h
  have ⟨w, hw, hvw⟩ := hkept v hv
  ⟨w, hw, hvw.tag.trans htag, hvw.pair.trans hpair⟩

/-! ### A tag enters the Wanted Set (R126) -/

theorem mem_insertWanted {w x : WantedEntry} {l : List WantedEntry} : x ∈ insertWanted w l ↔ x = w ∨ x ∈ l := by
  induction l with
  | nil => simp [insertWanted]
  | cons y rest ih =>
    unfold insertWanted
    split_ifs
    · simp
    · simp only [List.mem_cons, ih]
      tauto

/-- R126: an entry at a listing of a tag: one of that tag takes a later pair. -/
def WantedEntry.raised (w : WantedEntry) (tag : Tag) (pair : OrderPair) : WantedEntry :=
  if w.tag == tag && pair.later w.pair then { w with pair := pair } else w

theorem WantedEntry.goesOnAs_raised (w : WantedEntry) (tag : Tag) (pair : OrderPair) :
    w.GoesOnAs (w.raised tag pair) := by
  unfold WantedEntry.raised
  split_ifs with h
  · obtain ⟨-, hlater⟩ : w.tag = tag ∧ pair.later w.pair = true := by simpa using h
    exact ⟨rfl, rfl, rfl, .inr hlater⟩
  · exact .refl w

theorem WantedEntry.raised_covers {w : WantedEntry} {tag : Tag} (h : w.tag = tag) (pair : OrderPair) :
    (w.raised tag pair).pair.Covers pair := by
  unfold WantedEntry.raised
  split_ifs with hraised
  · exact .inl rfl
  · exact OrderPair.covers_of_not_later (by simpa [h] using hraised)

theorem State.enterWanted_wanted (s : State) (tag : Tag) (pair : OrderPair) : (s.enterWanted tag pair).sync.wanted =
    if s.isWanted tag then s.sync.wanted.map (·.raised tag pair)
    else if s.sync.wanted.length < 16 then insertWanted ⟨tag, pair, 0, s.now⟩ s.sync.wanted
    else s.sync.wanted := by
  unfold State.enterWanted
  split_ifs with hwanted hmax hroom hroom
  · rfl
  · simp
  · exact absurd hmax hroom
  · exact absurd hroom hmax
  · rfl

theorem State.enterWanted_kept (s : State) (tag : Tag) (pair : OrderPair) :
    WantedKept s.sync.wanted (s.enterWanted tag pair).sync.wanted := by
  rw [State.enterWanted_wanted]
  split_ifs
  · exact fun w hw => ⟨_, List.mem_map_of_mem hw, w.goesOnAs_raised tag pair⟩
  · exact fun w hw => ⟨w, mem_insertWanted.2 (.inr hw), .refl w⟩
  · exact .refl _

/-- R126: with room in the Wanted Set the tag is wanted, for the pair or for a later one that it was wanted for before. -/
theorem State.enterWanted_wants {s : State} (hroom : s.sync.wanted.length < 16) (tag : Tag) (pair : OrderPair) :
    WantsPair (s.enterWanted tag pair).sync.wanted tag pair := by
  rw [State.enterWanted_wanted]
  split_ifs with hwanted
  · obtain ⟨w, hw, htag⟩ : ∃ w ∈ s.sync.wanted, w.tag = tag := by simpa [State.isWanted] using hwanted
    exact ⟨_, List.mem_map_of_mem hw, (w.goesOnAs_raised tag pair).tag.trans htag, WantedEntry.raised_covers htag pair⟩
  · exact ⟨_, mem_insertWanted.2 (.inl rfl), rfl, .inl rfl⟩

theorem State.enterWanted_length_le (s : State) (tag : Tag) (pair : OrderPair) :
    (s.enterWanted tag pair).sync.wanted.length ≤ s.sync.wanted.length + 1 := by
  rw [State.enterWanted_wanted]
  split_ifs
  · simp
  · rw [insertWanted_length]
  · omega

theorem State.enterWanted_roster (s : State) (tag : Tag) (pair : OrderPair) :
    (s.enterWanted tag pair).sync.roster = s.sync.roster := by
  unfold State.enterWanted
  split_ifs <;> simp

/-! ### One tag of a DIGEST (R125, Table 62) -/

/-- Table 62: what the table lacks of a listed record: the tag is absent, or listed with a later pair than the held one. -/
def RecordTable.Lacks (t : RecordTable) (l : Listed) : Prop :=
  t.find l.tag = none ∨ ∃ e, t.find l.tag = some e ∧ l.pair.later e.pair = true

theorem State.digestTag_lacking {s : State} {listed : List Listed} {l : Listed}
    (hfind : listed.find? (fun x => x.tag == l.tag) = some l) (h : s.table.Lacks l) :
    s.digestTag listed l.tag = s.enterWanted l.tag l.pair := by
  obtain hnone | ⟨e, he, hlater⟩ := h
  · simp [State.digestTag, hfind, hnone]
  · simp [State.digestTag, hfind, he, hlater]

/-- Table 62: the Sync Unit is as it was, or a listed tag enters the Wanted Set. -/
theorem State.digestTag_sync_cases (s : State) (listed : List Listed) (tag : Tag) :
    (s.digestTag listed tag).sync = s.sync ∨
      (tag ∈ listed.map (·.tag) ∧ ∃ pair, s.digestTag listed tag = s.enterWanted tag pair) := by
  unfold State.digestTag
  cases hl : listed.find? (fun x => x.tag == tag) with
  | none => cases s.table.find tag <;> simp
  | some l =>
    have hlisted : tag ∈ listed.map (·.tag) :=
      List.mem_map.2 ⟨l, List.mem_of_find?_eq_some hl, by simpa using List.find?_some hl⟩
    cases s.table.find tag with
    | none => exact .inr ⟨hlisted, _, rfl⟩
    | some e =>
      dsimp only
      split_ifs
      · exact .inr ⟨hlisted, _, rfl⟩
      · exact .inl rfl
      · exact .inl (by simp)

theorem State.digestTag_kept (s : State) (listed : List Listed) (tag : Tag) :
    WantedKept s.sync.wanted (s.digestTag listed tag).sync.wanted := by
  obtain h | ⟨-, pair, h⟩ := s.digestTag_sync_cases listed tag <;> rw [h]
  · exact .refl _
  · exact s.enterWanted_kept tag pair

theorem State.digestTag_wanted_length_le (s : State) (listed : List Listed) (tag : Tag) :
    (s.digestTag listed tag).sync.wanted.length ≤
      s.sync.wanted.length + if tag ∈ listed.map (·.tag) then 1 else 0 := by
  obtain h | ⟨hlisted, pair, h⟩ := s.digestTag_sync_cases listed tag <;> rw [h]
  · omega
  · rw [if_pos hlisted]
    exact s.enterWanted_length_le tag pair

theorem State.digestTag_roster (s : State) (listed : List Listed) (tag : Tag) :
    (s.digestTag listed tag).sync.roster = s.sync.roster := by
  obtain h | ⟨-, pair, h⟩ := s.digestTag_sync_cases listed tag <;> rw [h]
  exact s.enterWanted_roster tag pair

/-! ### All tags of a DIGEST (R125, R126) -/

theorem State.foldl_digestTag_kept (s : State) (listed : List Listed) (tags : List Tag) :
    WantedKept s.sync.wanted (tags.foldl (fun s tag => s.digestTag listed tag) s).sync.wanted := by
  induction tags generalizing s with
  | nil => exact .refl _
  | cons first rest ih => exact (s.digestTag_kept listed first).trans (ih _)

theorem State.compareDigest_kept (s : State) (f : DigestContent) :
    WantedKept s.sync.wanted (s.compareDigest f).sync.wanted :=
  s.foldl_digestTag_kept f.listed (s.digestTags f)

/-- R126: the Wanted Set has room for every listed tag still to be compared. -/
def WantedRoom (listed : List Listed) (s : State) (tags : List Tag) : Prop :=
  s.sync.wanted.length + (tags.filter fun tag => tag ∈ listed.map (·.tag)).length ≤ 16

theorem WantedRoom.step {listed : List Listed} {s : State} {first : Tag} {rest : List Tag}
    (h : WantedRoom listed s (first :: rest)) : WantedRoom listed (s.digestTag listed first) rest := by
  have hlen := s.digestTag_wanted_length_le listed first
  unfold WantedRoom at h ⊢
  rw [List.filter_cons] at h
  by_cases hlisted : first ∈ listed.map (·.tag)
  · rw [if_pos (by simpa using hlisted), List.length_cons] at h
    rw [if_pos hlisted] at hlen
    omega
  · rw [if_neg (by simpa using hlisted)] at h
    rw [if_neg hlisted] at hlen
    omega

theorem WantedRoom.lt_of_listed {listed : List Listed} {s : State} {first : Tag} {rest : List Tag}
    (h : WantedRoom listed s (first :: rest)) (hlisted : first ∈ listed.map (·.tag)) : s.sync.wanted.length < 16 := by
  unfold WantedRoom at h
  rw [List.filter_cons_of_pos (by simpa using hlisted), List.length_cons] at h
  omega

/-- R125, R126: a lacked record is wanted from its own comparison on, since the later ones keep the entry. -/
theorem State.foldl_digestTag_wants {listed : List Listed} {l : Listed}
    (hfind : listed.find? (fun x => x.tag == l.tag) = some l) (tags : List Tag) (s : State)
    (hroom : WantedRoom listed s tags) (htag : l.tag ∈ tags) (hlacks : s.table.Lacks l) :
    WantsPair (tags.foldl (fun s tag => s.digestTag listed tag) s).sync.wanted l.tag l.pair := by
  induction tags generalizing s with
  | nil => simp at htag
  | cons first rest ih =>
    rw [List.foldl_cons]
    obtain rfl | htag := List.mem_cons.1 htag
    · have hlisted : l.tag ∈ listed.map (·.tag) := List.mem_map_of_mem (List.mem_of_find?_eq_some hfind)
      refine WantsPair.kept ?_ (State.foldl_digestTag_kept _ listed rest)
      rw [State.digestTag_lacking hfind hlacks]
      exact State.enterWanted_wants (hroom.lt_of_listed hlisted) l.tag l.pair
    · exact ih (s.digestTag listed first) hroom.step htag (by simpa using hlacks)

/-- Table 35: no tag is listed twice. -/
theorem DigestContent.listed_nodup {f : DigestContent} (h : f.wellFormed = true) : (f.listed.map (·.tag)).Nodup := by
  have hascending : ascendingTags (f.listed.map (·.tag)) = true := by
    simp only [DigestContent.wellFormed, Bool.and_eq_true] at h
    tauto
  exact ((ascendingTags_iff _).1 hascending).imp fun hlt heq => by simp [heq] at hlt

theorem DigestContent.find_listed {f : DigestContent} (h : f.wellFormed = true) {l : Listed} (hl : l ∈ f.listed) :
    f.listed.find? (fun x => x.tag == l.tag) = some l := by
  obtain ⟨x, hx⟩ := Option.isSome_iff_exists.1 (List.find?_isSome (p := fun x => x.tag == l.tag).2
    ⟨l, hl, beq_self_eq_true l.tag⟩)
  have hsame : x.tag = l.tag := by simpa using List.find?_some hx
  rw [hx, List.inj_on_of_nodup_map (DigestContent.listed_nodup h) (List.mem_of_find?_eq_some hx) hl hsame]

/-- R125: of the tags compared, those listed are no more than the frame lists. -/
theorem State.digestTags_listed (s : State) (f : DigestContent) :
    ((s.digestTags f).filter fun tag => tag ∈ f.listed.map (·.tag)).length ≤ f.listed.length := by
  have hsub : ((s.digestTags f).filter fun tag => tag ∈ f.listed.map (·.tag)) ⊆ f.listed.map (·.tag) :=
    fun tag htag => by simpa using (List.mem_filter.1 htag).2
  simpa using (((s.digestTags_nodup f).filter _).subperm hsub).length_le

theorem State.compareDigest_wants {s : State} {f : DigestContent} (hform : f.wellFormed = true)
    (hroom : s.sync.wanted.length + f.listed.length ≤ 16) {l : Listed} (hl : l ∈ f.listed) (hlacks : s.table.Lacks l) :
    WantsPair (s.compareDigest f).sync.wanted l.tag l.pair := by
  have hlisted := s.digestTags_listed f
  have htag : l.tag ∈ s.digestTags f :=
    mem_foldr_insertTag.2 (List.mem_append_left _ (List.mem_map_of_mem hl))
  exact State.foldl_digestTag_wants (DigestContent.find_listed hform hl) _ s (by unfold WantedRoom; omega) htag hlacks

/-- Settles O46: the frame's tags are compared one by one, each listed tag takes at most one place of the Wanted Set, and no
comparison takes an entry away or an earlier pair back. -/
theorem digestEntersWantedTags : Obligations.DigestEntersWantedTags := by
  intro s f hbus hrole hdeciding htx hf hgood hform hother
  have hexec := exec_digestFrame hbus hrole hdeciding htx hf
  rw [State.decideOther_handed (c := .digest f) _ hgood hform hother] at hexec
  have hheard := s.rosterHeard_wanted f.sender
  refine ⟨_, hexec, rfl, ?_, fun hroom l hl hlacks => ?_, fun w hw => ?_⟩
  · simp [State.keepsAllBut, Block.all, Block.agrees]
  · have hwants := State.compareDigest_wants (s := s.rosterHeard f.sender) hform (by rwa [hheard]) hl
      (by simpa [RecordTable.Lacks] using hlacks)
    simpa [WantsPair, OrderPair.Covers] using hwants
  · obtain ⟨w', hw', hgoes⟩ := (s.rosterHeard f.sender).compareDigest_kept f w (hheard ▸ hw)
    exact ⟨w', by simpa using hw', hgoes.tag, hgoes.asks, hgoes.nextAsk⟩

/-! ### The sender in the roster (R109) -/

theorem State.rosterHeard_absent {s : State} {sender : StationId} (h : s.sync.peer sender = none) :
    s.rosterHeard sender = s := by
  simp [State.rosterHeard, h]

theorem State.rosterHeard_held {s : State} {sender : StationId} {p : PeerEntry} (h : s.sync.peer sender = some p) :
    (s.rosterHeard sender).sync.roster =
        s.sync.roster.map (fun q => if q.station = sender then { q with silent := false, timer := some 0 } else q) ∧
      (s.rosterHeard sender).port.notices =
        if p.silent then postInto s.port.notices (.peer .peerReturned sender) else s.port.notices := by
  simp only [State.rosterHeard, h]
  split_ifs <;> simp [SyncUnit.modifyPeer, HostPort.setNotices]

theorem State.compareDigest_roster (s : State) (f : DigestContent) :
    (s.compareDigest f).sync.roster = s.sync.roster := by
  unfold State.compareDigest
  generalize s.digestTags f = tags
  induction tags generalizing s with
  | nil => rfl
  | cons tag rest ih => exact (ih _).trans (s.digestTag_roster f.listed tag)

theorem State.pullTag_roster (s : State) (tag : Tag) : (s.pullTag tag).sync.roster = s.sync.roster := by
  unfold State.pullTag
  split_ifs <;> simp

theorem State.answerPull_roster (s : State) (f : PullContent) : (s.answerPull f).sync.roster = s.sync.roster := by
  unfold State.answerPull
  generalize f.tags = tags
  induction tags generalizing s with
  | nil => rfl
  | cons tag rest ih => exact (ih _).trans (s.pullTag_roster tag)

/-- Settles O47: behind the sender's own restart neither frame's handling touches the roster or the notices. -/
theorem digestOrPullBringsItsSenderBack : Obligations.DigestOrPullBringsItsSenderBack := by
  intro s sender c hbus hrole hdeciding htx hgood hother hframe
  obtain ⟨t, hexec, hroster, hnotices⟩ : ∃ t, exec c s = .next t ∧
      t.sync.roster = (s.rosterHeard sender).sync.roster ∧ t.port.notices = (s.rosterHeard sender).port.notices := by
    obtain ⟨rfl, f, hf, hform, rfl⟩ | ⟨rfl, f, hf, hform, rfl⟩ := hframe
    · have hexec := exec_digestFrame hbus hrole hdeciding htx hf
      rw [State.decideOther_handed (c := .digest f) _ hgood hform hother] at hexec
      exact ⟨_, hexec, by simp [State.compareDigest_roster], by simp⟩
    · have hexec := exec_pullFrame hbus hrole hdeciding htx hf
      rw [State.decideOther_handed (c := .pull f) _ hgood hform hother] at hexec
      exact ⟨_, hexec, by simp [State.answerPull_roster], by simp⟩
  refine ⟨t, hexec, fun habsent => ?_, fun p hp => ?_⟩
  · rw [hroster, hnotices, State.rosterHeard_absent habsent]
    exact ⟨rfl, rfl⟩
  · rw [hroster, hnotices]
    exact State.rosterHeard_held hp

end Sys2Proof.Machine
end

section
/-! SUPPORT, SETTLES O25. RESUME at Station Control, and CONFIG WRITE and WIPE at the Retained Store, by the link state. -/

namespace Sys2Proof.Machine

/-- R169: an answer to a request just taken leaves all blocks but the port. -/
theorem State.taken_answer (s : State) (code : Byte) (args : List Byte) (c : ResultCode) (d : List Byte) :
    s.answered ((s.taken code args).answer c d) c d = true ∧
      s.keepsAllBut ((s.taken code args).answer c d) [.port] = true :=
  ⟨s.answered_taken code args c d, by simp [State.keepsAllBut, Block.all, Block.agrees]⟩

/-! ### RESUME (R162) -/

section Resume
variable {s : State}

theorem State.ownerResume_notQuiesced (h : s.control.link ≠ .quiesced) : s.ownerResume = s.answer .notQuiesced [] := by
  simp [State.ownerResume, h]

theorem State.ownerResume_badConfig (h : s.control.link = .quiesced) (hconfig : s.control.config = none) :
    s.ownerResume = s.answer .badConfig [] := by
  simp [State.ownerResume, h, Control.configValid, hconfig]

theorem State.ownerResume_joins (h : s.control.link = .quiesced) (hconfig : s.control.config.isSome = true) :
    s.ownerResume = (s.move .joining .hostRequest).enterJoining.answer .ok [] := by
  simp [State.ownerResume, h, Control.configValid, hconfig]

end Resume

/-- R113, R119, R131: at an entry into JOINING the beacon timer and the listen window start. -/
theorem State.enterJoining_starts (s : State) : s.enterJoining.sync.beaconTimer = some 0 ∧
    s.enterJoining.sync.listen = some 0 ∧ s.enterJoining.sync.joinDigest = .notYet ∧
    s.enterJoining.sync.settle = .stopped := by
  rw [s.enterJoining_sync]
  exact ⟨rfl, rfl, rfl, rfl⟩

/-- R80: a frame already open at an entry into JOINING is followed without part. -/
theorem State.enterJoining_rx (s : State) :
    s.enterJoining.fe.rx = if s.line.frameOpen then .discard else s.fe.rx := by
  simp [State.enterJoining]

/-- R55, R119: what an entry into JOINING makes of the reports. -/
theorem State.enterJoining_reports (s : State) : s.enterJoining.reports =
    { s.reports with joinComplete := false, busStuck := s.reports.busStuck || s.line.cond == .stuck } := by
  simp [State.enterJoining]

/-- R159, R169: a request just taken that moves the link into JOINING is answered OK behind its LINK notice. -/
theorem State.resume_answeredWith (s : State) (code : Byte) (args : List Byte) :
    s.answeredWith (((s.taken code args).move .joining .hostRequest).enterJoining.answer .ok []) .ok [] = true := by
  have hworking : ((s.taken code args).move .joining .hostRequest).enterJoining.port.state = .working := by
    simp [State.move]
  rw [State.answer_working _ _ _ hworking]
  simp [State.answeredWith, State.move]

/-! ### CONFIG WRITE and WIPE (R173) -/

theorem parseConfig_none {id rate period action : Byte}
    (h : 15 < id.toNat ∨ 3 < rate.toNat ∨ period = 0#8 ∨ 1 < action.toNat) :
    parseConfig [id, rate, period, action] = none := by
  rw [parseConfig]
  split_ifs with hrange
  · obtain ⟨⟨hid, hrate⟩, hperiod⟩ : (id.toNat ≤ 15 ∧ rate.toNat ≤ 3) ∧ period ≠ 0#8 := by simpa using hrange
    have haction := ((h.resolve_left (by omega)).resolve_left (by omega)).resolve_left hperiod
    rw [byteFlag_none action haction, Option.map_none]
  · rfl

theorem parseConfig_some {id rate period action : Byte} (hid : id.toNat ≤ 15) (hrate : rate.toNat ≤ 3)
    (hperiod : period ≠ 0#8) (haction : action.toNat ≤ 1) : parseConfig [id, rate, period, action] =
      some ⟨id.setWidth 4, rate.setWidth 2, period, if action = 1#8 then .restart else .freeze⟩ := by
  simp [parseConfig, hid, hrate, hperiod, byteFlag_some action haction]

section StoreRequests
variable {s : State}

theorem State.ownerConfigWrite_notQuiesced (args : List Byte) (h : s.control.link ≠ .quiesced) :
    State.ownerConfigWrite args s = s.answer .notQuiesced [] := by
  simp [State.ownerConfigWrite, h]

theorem State.ownerConfigWrite_badArgument {args : List Byte} (h : s.control.link = .quiesced)
    (hargs : parseConfig args = none) : State.ownerConfigWrite args s = s.answer .badArgument [] := by
  simp [State.ownerConfigWrite, h, hargs]

theorem State.ownerConfigWrite_pending {args : List Byte} {f : ConfigFields} (h : s.control.link = .quiesced)
    (hargs : parseConfig args = some f) :
    State.ownerConfigWrite args s = s.setStore { s.store with request := some (.configWrite f) } := by
  simp [State.ownerConfigWrite, h, hargs]

theorem State.ownerWipe_notQuiesced (h : s.control.link ≠ .quiesced) : s.ownerWipe = s.answer .notQuiesced [] := by
  simp [State.ownerWipe, h]

theorem State.ownerWipe_pending (h : s.control.link = .quiesced) :
    s.ownerWipe = s.setStore { s.store with request := some .wipe } := by
  simp [State.ownerWipe, h]

end StoreRequests

/-- R173: a request just taken and pending at the store: the port is WORKING and has no answer yet. -/
theorem State.taken_pending (s : State) (code : Byte) (args : List Byte) (r : StoreRequest) :
    let t := (s.taken code args).setStore { s.store with request := some r }
    t.port.state = .working ∧ t.port.notices = s.port.notices ∧ t.store = { s.store with request := some r } ∧
      s.keepsAllBut t [.port, .store] = true := by
  simp [State.keepsAllBut, Block.all, Block.agrees]

/-- Settles O25: outside QUIESCED each request is answered NOT_QUIESCED; in QUIESCED a RESUME enters JOINING and answers, and a
request to the store waits there. -/
theorem resumeAndStoreRequestsByLinkState : Obligations.ResumeAndStoreRequestsByLinkState := by
  constructor
  · intro s hs hl
    refine ⟨_, congrArg Host.Outcome.next (s.request_owner 0x09#8 [] true _ hs hl), fun hlink => ?_,
      fun hlink hconfig => ?_, fun hlink hconfig => ?_⟩
    · rw [State.ownerResume_notQuiesced (by simpa using hlink)]
      exact s.taken_answer _ _ _ _
    · rw [State.ownerResume_badConfig (by simpa using hlink) (by simpa using hconfig)]
      exact s.taken_answer _ _ _ _
    · rw [State.ownerResume_joins (by simpa using hlink) (by simpa using hconfig)]
      have hanswered := s.resume_answeredWith 0x09#8 []
      generalize hu : (s.taken 0x09#8 []).move .joining .hostRequest = u at hanswered ⊢
      have hcontrol : u.control = { s.control with link := .joining, reason := .hostRequest } := by
        simp [← hu, State.move]
      have hline : u.line = s.line := by simp [← hu]
      have hnotices : u.port.notices = postInto s.port.notices (.link .hostRequest) := by
        simp [← hu, State.move]
      have hmove : s.keepsAllBut u [.control, .port] = true := by
        simp [← hu, State.keepsAllBut, Block.all, Block.agrees]
      have hanswer : u.enterJoining.keepsAllBut (u.enterJoining.answer .ok []) [.port] = true := by
        simp [State.keepsAllBut, Block.all, Block.agrees]
      obtain ⟨hbeacon, hlisten, hdigest, hsettle⟩ := u.enterJoining_starts
      refine ⟨by simpa using hcontrol, by simpa using hbeacon, by simpa using hlisten, by simpa using hdigest,
        by simpa using hsettle, fun hopen => ?_, fun hstuck => ?_,
        by simpa [Notice.link] using hnotices, hanswered, ?_⟩
      · simp [State.enterJoining_rx, hline, hopen]
      · simp [State.enterJoining_reports, hline, hstuck]
      · exact State.keepsAllBut_trans (State.keepsAllBut_trans hmove u.enterJoining_keeps (List.subset_append_left _ _)
          (List.subset_append_right _ _)) hanswer (by simp) (by simp)
  · intro s hs hl
    constructor
    · intro id rate period action
      refine ⟨_, congrArg Host.Outcome.next (s.request_owner 0x0B#8 [id, rate, period, action] true _ hs hl),
        fun hlink => ?_, fun hlink hbad => ?_, fun hlink hid hrate hperiod haction => ?_⟩
      · rw [State.ownerConfigWrite_notQuiesced _ (by simpa using hlink)]
        exact s.taken_answer _ _ _ _
      · rw [State.ownerConfigWrite_badArgument (by simpa using hlink) (parseConfig_none hbad)]
        exact s.taken_answer _ _ _ _
      · rw [State.ownerConfigWrite_pending (by simpa using hlink) (parseConfig_some hid hrate hperiod haction)]
        simpa using s.taken_pending 0x0B#8 [id, rate, period, action] (.configWrite _)
    · refine ⟨_, congrArg Host.Outcome.next (s.request_owner 0x0C#8 [] true _ hs hl), fun hlink => ?_, fun hlink => ?_⟩
      · rw [State.ownerWipe_notQuiesced (by simpa using hlink)]
        exact s.taken_answer _ _ _ _
      · rw [State.ownerWipe_pending (by simpa using hlink)]
        simpa using s.taken_pending 0x0C#8 [] .wipe

end Sys2Proof.Machine
end

section
/-! SUPPORT, SETTLES O52. The move to QUIESCED of a DUPLICATE_ID and of a completed quiesce, and the answer to a quiesce that
waits. -/

namespace Sys2Proof.Machine

/-! ### Into QUIESCED (R160, R102, R135, R55) -/

theorem State.toQuiesced_control (s : State) (reason : Reason) :
    (s.toQuiesced reason).control = { s.control with link := .quiesced, reason := reason } := by
  simp [State.toQuiesced, State.move]

theorem State.toQuiesced_port (s : State) (reason : Reason) :
    (s.toQuiesced reason).port = s.port.setNotices (postInto s.port.notices (.link reason)) := by
  simp [State.toQuiesced, State.move]

theorem State.toQuiesced_line (s : State) (reason : Reason) :
    (s.toQuiesced reason).line = { s.line.release with right := false } := by
  simp [State.toQuiesced, State.releaseLines]

theorem State.toQuiesced_cleared (s : State) (reason : Reason) :
    (s.toQuiesced reason).sendQ = [] ∧ (s.toQuiesced reason).sync = s.dropFrame.sync.clear := by
  simp [State.toQuiesced]

/-! ### The answer to a quiesce that waits (R161) -/

section EndWaiting
variable {s : State}

theorem State.endWaiting_waiting (h : s.control.quiesceWaiting = true) :
    s.endWaiting = (s.setControl { s.control with quiesceWaiting := false }).answer .ok [] := by
  simp [State.endWaiting, h]

theorem State.endWaiting_idle (h : s.control.quiesceWaiting = false) : s.endWaiting = s := by
  simp [State.endWaiting, h]

/-- With no quiesce waiting the mark is down already. -/
theorem State.endWaiting_control (s : State) :
    s.endWaiting.control = { s.control with quiesceWaiting := false } := by
  cases h : s.control.quiesceWaiting with
  | true => simp [State.endWaiting_waiting h]
  | false => rw [State.endWaiting_idle h, ← h]

theorem State.endWaiting_notices (s : State) : s.endWaiting.port.notices = s.port.notices := by
  cases h : s.control.quiesceWaiting with
  | true => simp [State.endWaiting_waiting h]
  | false => rw [State.endWaiting_idle h]

theorem State.endWaiting_answers (h : s.control.quiesceWaiting = true) (hworking : s.port.state = .working) :
    s.endWaiting.port.state = .ready ∧ s.endWaiting.port.response = some ⟨.ok, []⟩ := by
  rw [State.endWaiting_waiting h, State.answer_working (s.setControl { s.control with quiesceWaiting := false }) _ _ hworking]
  exact ⟨rfl, rfl⟩

/-- R161: a waiting quiesce completes with the move that a DUPLICATE_ID makes, for another reason. -/
theorem State.completeQuiesce_eq_endWaiting (h : s.control.quiesceWaiting = true) :
    s.completeQuiesce = (s.toQuiesced .hostRequest).endWaiting := by
  rw [State.endWaiting_waiting (by simpa [State.toQuiesced_control] using h)]
  rfl

end EndWaiting

/-! ### QUIESCED, with no quiesce waiting any more -/

/-- R160, R161, R135: from `s` to `t` the station has moved to QUIESCED for `reason`, its queues cleared and its lines let go,
and a quiesce that waited is answered. -/
structure Quiesces (s : State) (reason : Reason) (t : State) : Prop where
  control : t.control = { s.control with link := .quiesced, reason := reason, quiesceWaiting := false }
  sendQ : t.sendQ = []
  wanted : t.sync.wanted = []
  runActive : t.sync.runActive = false
  pullList : t.sync.pullList = []
  listen : t.sync.listen = none
  driveBck : t.line.driveBck = false
  driveBda : t.line.driveBda = false
  notices : t.port.notices = postInto s.port.notices (.link reason)
  answers : s.control.quiesceWaiting = true → s.port.state = .working →
    t.port.state = .ready ∧ t.port.response = some ⟨.ok, []⟩
  keeps : s.keepsAllBut t [.control, .line, .fe, .sendQ, .sync, .port, .reports] = true

theorem State.toQuiesced_endWaiting_quiesces (s : State) (reason : Reason) :
    Quiesces s reason (s.toQuiesced reason).endWaiting := by
  obtain ⟨hq, hsync⟩ := s.toQuiesced_cleared reason
  have hcontrol := s.toQuiesced_control reason
  have hport := s.toQuiesced_port reason
  have hline : (s.toQuiesced reason).endWaiting.line = { s.line.release with right := false } := by
    simpa using s.toQuiesced_line reason
  have hcleared : (s.toQuiesced reason).endWaiting.sync = s.dropFrame.sync.clear := by simpa using hsync
  exact {
    control := by rw [State.endWaiting_control, hcontrol]
    sendQ := by simpa using hq
    wanted := by rw [hcleared]; rfl
    runActive := by rw [hcleared]; rfl
    pullList := by rw [hcleared]; rfl
    listen := by rw [hcleared]; rfl
    driveBck := by rw [hline]; rfl
    driveBda := by rw [hline]; rfl
    notices := by rw [State.endWaiting_notices, hport]; rfl
    answers := fun hwaiting hworking =>
      State.endWaiting_answers (by rw [hcontrol]; exact hwaiting) (by rw [hport]; exact hworking)
    keeps := by simp [State.keepsAllBut, Block.all, Block.agrees] }

/-! ### The two commands -/

section Commands
variable {s : State}

/-- R159: the report taken has no part in the move. -/
theorem exec_duplicateId_onBus (hbus : s.onBus = true) :
    ∃ t, exec .duplicateId s = .next t ∧ Quiesces s .duplicateId t := by
  refine ⟨_, congrArg Host.Outcome.next (if_pos hbus), ?_⟩
  have h := (s.setReports { s.reports with duplicateId := false }).toQuiesced_endWaiting_quiesces .duplicateId
  exact { h with
    keeps := State.keepsAllBut_trans (s.keepsAllBut_setReports _) h.keeps (by simp) (List.Subset.refl _) }

theorem LinkState.completesQuiesce_iff (l : LinkState) :
    l.completesQuiesce = true ↔ l = .joining ∨ l = .active ∨ l = .faulted := by
  cases l <;> simp [LinkState.completesQuiesce]

theorem exec_quiesceComplete_waiting (hwaiting : s.control.quiesceWaiting = true)
    (hlink : s.control.link = .joining ∨ s.control.link = .active ∨ s.control.link = .faulted) :
    ∃ t, exec .quiesceComplete s = .next t ∧ Quiesces s .hostRequest t := by
  have hcompletes : (s.control.quiesceWaiting && s.control.link.completesQuiesce) = true := by
    simp [hwaiting, (LinkState.completesQuiesce_iff _).2 hlink]
  have hmove : (if s.control.quiesceWaiting && s.control.link.completesQuiesce then s.completeQuiesce else s) =
      (s.toQuiesced .hostRequest).endWaiting :=
    (if_pos hcompletes).trans (State.completeQuiesce_eq_endWaiting hwaiting)
  have h := s.toQuiesced_endWaiting_quiesces .hostRequest
  refine ⟨_, congrArg (fun u : State => Host.Outcome.next (u.setReports { u.reports with partEnded := false })) hmove, ?_⟩
  exact { h with
    keeps := State.keepsAllBut_trans h.keeps (State.keepsAllBut_setReports _ _) (List.Subset.refl _) (by simp) }

end Commands

/-- Settles O52: DUPLICATE_ID and QUIESCE_COMPLETE both move to QUIESCED and end the wait of a quiesce; off the bus the first
is taken without effect. -/
theorem duplicateAndQuiesceCompleteMoveToQuiesced : Obligations.DuplicateAndQuiesceCompleteMoveToQuiesced := by
  intro s
  refine ⟨fun hbus => ?_, fun hbus => ?_, fun hwaiting hlink => ?_⟩
  · obtain ⟨t, hexec, h⟩ := exec_duplicateId_onBus hbus
    exact ⟨t, hexec, h.control, h.sendQ, h.wanted, h.runActive, h.pullList, h.listen, h.driveBck, h.driveBda, h.notices,
      h.answers, h.keeps⟩
  · exact ⟨_, congrArg Host.Outcome.next (if_neg (Bool.eq_false_iff.1 hbus)), s.keepsAllBut_setReports _⟩
  · obtain ⟨t, hexec, h⟩ := exec_quiesceComplete_waiting hwaiting hlink
    exact ⟨t, hexec, h.control, h.sendQ, h.wanted, h.runActive, h.notices, h.answers hwaiting, h.keeps⟩

end Sys2Proof.Machine
end

section
/-! SUPPORT, SETTLES O50. The ends of the listen window and of the settle timer in JOINING. -/

namespace Sys2Proof.Machine

section JoinTimers
variable {s : State}

/-! ### The join's run (R120, R121) -/

theorem State.startRun_active (h : s.sync.runActive = true) : s.startRun = s := by
  simp [State.startRun, h]

/-- R121: a run starts at the first tag; its claim records at most that the DIGEST item is queued. -/
theorem State.startRun_sync (h : s.sync.runActive = false) : s.startRun.sync =
    { s.sync with
      runActive := true, cursor := 0x001#12, rangeEnd := none, digestQueued := s.startRun.sync.digestQueued } := by
  rw [State.startRun_inactive h, State.claimDigest_sync]
  rfl

/-- Whether a run was active or not, one is active behind its start, and the listen window is left alone. -/
theorem State.startRun_runs (s : State) :
    s.startRun.sync.runActive = true ∧ s.startRun.sync.listen = s.sync.listen := by
  cases h : s.sync.runActive with
  | true => simp [State.startRun_active h, h]
  | false =>
    rw [State.startRun_sync h]
    exact ⟨rfl, rfl⟩

theorem exec_listenWindowEnd {time : Nat} (hlink : s.control.link = .joining) (hlisten : s.sync.listen = some time)
    (htime : 0 < time) :
    let u := (s.setSync { s.sync with listen := none }).startRun
    exec .listenWindowEnd s = .next (u.setSync { u.sync with joinDigest := .running }) := by
  refine congrArg Host.Outcome.next (if_pos ?_)
  simp [hlink, hlisten, hasRun_some, htime]

/-! ### The readiness of a joining station (R131, R132) -/

/-- R132: the test records at most that JOIN_COMPLETE was reported. -/
theorem State.testReady_sync (s : State) :
    s.testReady.sync = { s.sync with joinReported := s.testReady.sync.joinReported } := by
  unfold State.testReady
  split_ifs <;> rfl

theorem State.ready_iff (s : State) : s.ready = true ↔ s.control.link = .joining ∧ s.sync.joinDigest = .done ∧
    s.sync.runActive = false ∧ s.sync.wanted = [] ∧ s.sync.settle = .elapsed := by
  simp [State.ready, and_assoc]

theorem State.testReady_reports (hready : s.ready = true) (hfirst : s.sync.joinReported = false) :
    s.testReady.reports = { s.reports with joinComplete := true } := by
  simp [State.testReady, hready, hfirst]

theorem State.testReady_of_not_ready (h : s.ready ≠ true) : s.testReady = s := by
  simp [State.testReady, h]

theorem exec_settleElapsed {time : Nat} (hlink : s.control.link = .joining) (hsettle : s.sync.settle = .running time)
    (htime : 0 < time) :
    exec .settleElapsed s = .next (s.setSync { s.sync with settle := .elapsed }).testReady := by
  refine congrArg Host.Outcome.next (if_pos ?_)
  simp [hlink, hsettle, SettleTimer.hasRun, htime]

end JoinTimers

/-- Settles O50: the window's end marks the run that is active behind the start as the join's, and the settle timer's end tests
the station's readiness. -/
theorem joinTimersCompleteTheJoin : Obligations.JoinTimersCompleteTheJoin := by
  intro s hlink
  constructor
  · intro time hlisten htime
    refine ⟨_, exec_listenWindowEnd hlink hlisten htime, ?_⟩
    generalize hv : s.setSync { s.sync with listen := none } = v
    have hsync : v.sync = { s.sync with listen := none } := by rw [← hv]; rfl
    have hq : v.sendQ = s.sendQ := by rw [← hv]; rfl
    obtain ⟨hruns, hclosed⟩ := v.startRun_runs
    refine ⟨by simpa [hsync] using hclosed, rfl, hruns, fun hactive => ?_, fun hinactive => ?_, ?_⟩
    · have hkept : v.startRun = v := State.startRun_active (by rw [hsync]; exact hactive)
      simp [hkept, hsync, hq]
    · exact congrArg SyncUnit.cursor (State.startRun_sync (s := v) (by rw [hsync]; exact hinactive))
    · simp [← hv, State.keepsAllBut, Block.all, Block.agrees]
  · intro time hsettle htime
    refine ⟨_, exec_settleElapsed hlink hsettle htime, ?_⟩
    generalize hv : s.setSync { s.sync with settle := .elapsed } = v
    have hready : v.ready = true ↔ s.sync.joinDigest = .done ∧ s.sync.runActive = false ∧ s.sync.wanted = [] := by
      simp [State.ready_iff, ← hv, hlink]
    have hreports : v.reports = s.reports := by rw [← hv]; rfl
    have htested := v.testReady_sync
    refine ⟨by rw [htested, ← hv]; rfl, by rw [htested, ← hv]; rfl, by rw [htested, ← hv]; rfl, ?_,
      fun hdone hrun hwanted hfirst => ?_, fun hnot => ?_⟩
    · simp [← hv, State.keepsAllBut, Block.all, Block.agrees]
    · rw [State.testReady_reports (hready.2 ⟨hdone, hrun, hwanted⟩) (by rw [← hv]; exact hfirst), hreports]
    · have hfails : ¬(s.sync.joinDigest = .done ∧ s.sync.runActive = false ∧ s.sync.wanted = []) := by
        rintro ⟨hdone, hrun, hwanted⟩
        simp [hdone, hrun, hwanted] at hnot
      rw [State.testReady_of_not_ready (mt hready.1 hfails), hreports]

end Sys2Proof.Machine
end

section
/-! SUPPORT, SETTLES O51. The next ask of a Wanted Set entry, and the end of one that three asks left unanswered. -/

namespace Sys2Proof.Machine

/-- R127: with an entry due on the bus, a PULL item is queued at the tail unless one is queued or the queue is full. -/
theorem State.claimPull_due_sendQ {s : State} (hbus : s.onBus = true) (hdue : s.someDue = true) : s.claimPull.sendQ =
    if (findItem s.sendQ .pull).isSome ∨ 16 ≤ s.sendQ.length then s.sendQ else s.sendQ ++ [⟨.pull, false, 0⟩] := by
  rw [State.claimPull_sendQ, if_pos hdue, State.append_sendQ s (by simp), ← ite_not]
  refine if_congr ?_ rfl rfl
  simp [hbus, Option.isSome_iff_ne_none, imp_iff_not_or]

/-- R127: the Wanted Set when the next ask of an entry has come: its next-ask time is no later than the moment. -/
def askNow (tag : Tag) (now : Nat) (wanted : List WantedEntry) : List WantedEntry :=
  wanted.map fun w => if w.tag == tag then { w with nextAsk := min w.nextAsk now } else w

theorem nextAsk_le_of_mem_askNow {tag : Tag} {now : Nat} {wanted : List WantedEntry} {x : WantedEntry}
    (hx : x ∈ askNow tag now wanted) (htag : x.tag = tag) : x.nextAsk ≤ now := by
  obtain ⟨w, -, rfl⟩ := List.mem_map.1 hx
  by_cases hw : (w.tag == tag) = true
  · rw [if_pos hw]
    exact min_le_right _ _
  · rw [if_neg hw] at htag
    exact absurd (beq_iff_eq.2 htag) hw

theorem mem_askNow {tag : Tag} {now : Nat} {wanted : List WantedEntry} {w : WantedEntry} (hw : w ∈ wanted)
    (htag : w.tag = tag) : { w with nextAsk := min w.nextAsk now } ∈ askNow tag now wanted :=
  List.mem_map.2 ⟨w, hw, if_pos (beq_iff_eq.2 htag)⟩

section Asks
variable {s : State} {tag : Tag} {w : WantedEntry}

theorem State.askCanCome_iff (s : State) (w : WantedEntry) :
    s.askCanCome w = true ↔ w.nextAsk < s.now + s.control.ownPeriod :=
  decide_eq_true_iff

theorem exec_nextAskDue (hbus : s.onBus = true) (hw : w ∈ s.sync.wanted) (htag : w.tag = tag)
    (hcome : w.nextAsk < s.now + s.control.ownPeriod) (hasks : w.asks < 3) :
    exec (.nextAskDue tag) s =
      .next (s.setSync { s.sync with wanted := askNow tag s.now s.sync.wanted }).claimPull := by
  have hany : s.sync.wanted.any (fun w => w.tag == tag && decide (w.asks < maxAsks) && s.askCanCome w) = true :=
    List.any_eq_true.2 ⟨w, hw, by simp [htag, maxAsks, hasks, (s.askCanCome_iff w).2 hcome]⟩
  exact congrArg Host.Outcome.next (if_pos (by rw [hbus, hany]; rfl))

theorem exec_pullUnanswered (hbus : s.onBus = true) (hw : s.sync.wanted.find? (fun x => x.tag == tag) = some w)
    (hcome : w.nextAsk < s.now + s.control.ownPeriod) (hasks : 3 ≤ w.asks) :
    exec (.pullUnanswered tag) s = .next ((s.setSync { s.sync with
      wanted := s.sync.wanted.filter fun x => x.tag != tag
      pullList := s.sync.pullList.filter fun u => u != tag }).post
        (.record .pullUnanswered tag w.pair none)).testReady := by
  refine congrArg Host.Outcome.next ?_
  simp [hw, hbus, maxAsks, hasks, (s.askCanCome_iff w).2 hcome]

end Asks

/-- Settles O51: below three asks the entry is due at this moment and the PULL is claimed; at three it leaves the Wanted Set with
its notice. -/
theorem wantedEntryIsAskedOrExpires : Obligations.WantedEntryIsAskedOrExpires := by
  intro s tag w hbus hw hcome
  have hmem : w ∈ s.sync.wanted := List.mem_of_find?_eq_some hw
  have htag : w.tag = tag := by simpa using List.find?_some hw
  constructor
  · intro hasks
    refine ⟨_, exec_nextAskDue hbus hmem htag hcome hasks, ?_, fun x hx => ?_, ?_⟩
    · simp [State.keepsAllBut, Block.all, Block.agrees]
    · exact nextAsk_le_of_mem_askNow (by simpa using hx)
    · refine State.claimPull_due_sendQ (s := s.setSync _) hbus ?_
      exact (State.someDue_iff _).2 ⟨_, mem_askNow hmem htag, hasks, min_le_right _ _⟩
  · intro hasks
    refine ⟨_, exec_pullUnanswered hbus hw hcome hasks, ?_, ?_, by simp [HostPort.setNotices, Notice.record], ?_⟩
    · rw [State.testReady_sync]
      rfl
    · rw [State.testReady_sync]
      rfl
    · simp [State.keepsAllBut, Block.all, Block.agrees]

end Sys2Proof.Machine
end

section
/-! SUPPORT, SETTLES O55, O58. The array's slots and the pair map, and how the write engine takes its next operation. -/

namespace Sys2Proof.Machine

/-! ### Slots and pairs (R137, R139) -/

theorem PairSlots.set_eq (p : PairSlots) (slot : SlotName) (c : SlotContent) :
    p.set slot c = if slot = .a then ⟨c, p.b⟩ else ⟨p.a, c⟩ := by
  cases slot <;> rfl

theorem RetainedArray.setSlot_pairs (m : RetainedArray) (pair : Nat) (slot : SlotName) (c : SlotContent) :
    (m.setSlot pair slot c).pairs = m.pairs.modify pair fun p => p.set slot c := rfl

theorem RetainedArray.setSlot_same {m : RetainedArray} {pair : Nat} {p : PairSlots} (h : m.pairs[pair]? = some p)
    (slot : SlotName) (c : SlotContent) :
    (m.setSlot pair slot c).pairs[pair]? = some (if slot = .a then ⟨c, p.b⟩ else ⟨p.a, c⟩) := by
  rw [RetainedArray.setSlot_pairs, List.getElem?_modify_eq, h, Option.map_eq_map, Option.map_some, PairSlots.set_eq]

theorem RetainedArray.setSlot_other (m : RetainedArray) {pair j : Nat} (h : j ≠ pair) (slot : SlotName) (c : SlotContent) :
    (m.setSlot pair slot c).pairs[j]? = m.pairs[j]? :=
  List.getElem?_modify_ne _ _ h.symm

/-- Of two contents set one after the other the last one stays. -/
theorem RetainedArray.setSlot_setSlot (m : RetainedArray) (pair : Nat) (slot : SlotName) (c d : SlotContent) :
    (m.setSlot pair slot c).setSlot pair slot d = m.setSlot pair slot d := by
  have hset (p : PairSlots) : (p.set slot c).set slot d = p.set slot d := by cases slot <;> rfl
  simp [RetainedArray.setSlot, List.modify_modify_eq, Function.comp_def, hset]

/-- R142 step 4: the slot that is not the newest. -/
theorem PairMapEntry.target_eq (m : PairMapEntry) : m.target = if m.newest = some .a then .b else .a := by
  unfold PairMapEntry.target
  split <;> simp [*]

/-! ### The pair of a commit (R140) -/

/-- The place of the first element that passes a test. -/
theorem findIdx?_eq_some_of_first {α : Type} {l : List α} {test : α → Bool} {n : Nat} {x : α} (hx : l[n]? = some x)
    (htest : test x = true) (hfirst : ∀ j, j < n → ∀ y, l[j]? = some y → test y = false) :
    l.findIdx? test = some n := by
  obtain ⟨hlt, rfl⟩ := List.getElem?_eq_some_iff.1 hx
  refine List.findIdx?_eq_some_iff_getElem.2 ⟨hlt, htest, fun j hj => ?_⟩
  simpa using hfirst j hj _ (List.getElem?_eq_getElem (hj.trans hlt))

theorem pairFor_assigned {pairMap : List PairMapEntry} {tag : Tag} {pair : Nat} {m : PairMapEntry}
    (hm : pairMap[pair]? = some m) (htag : m.tag = some tag)
    (hfirst : ∀ j, j < pair → ∀ x, pairMap[j]? = some x → x.tag ≠ some tag) : pairFor pairMap tag = some pair := by
  have h : pairMap.findIdx? (fun e => e.tag == some tag) = some pair :=
    findIdx?_eq_some_of_first hm (by simp [htag]) fun j hj x hx => by simpa using hfirst j hj x hx
  simp [pairFor, h]

/-- R140: a tag that no pair bears is given a free pair, if there is one. -/
theorem pairFor_unassigned {pairMap : List PairMapEntry} {tag : Tag} (h : ∀ x ∈ pairMap, x.tag ≠ some tag) :
    pairFor pairMap tag = pairMap.findIdx? fun e => e.tag.isNone := by
  have hnone : pairMap.findIdx? (fun e => e.tag == some tag) = none := by simpa [List.findIdx?_eq_none_iff] using h
  simp [pairFor, hnone]

theorem pairFor_free {pairMap : List PairMapEntry} {tag : Tag} {pair : Nat} {m : PairMapEntry}
    (hm : pairMap[pair]? = some m) (hnone : ∀ x ∈ pairMap, x.tag ≠ some tag) (hfree : m.tag = none)
    (hfirst : ∀ j, j < pair → ∀ x, pairMap[j]? = some x → x.tag ≠ none) : pairFor pairMap tag = some pair := by
  rw [pairFor_unassigned hnone]
  exact findIdx?_eq_some_of_first hm (by simp [hfree]) fun j hj x hx =>
    by simpa [← Option.isSome_iff_ne_none] using hfirst j hj x hx

theorem pairFor_full {pairMap : List PairMapEntry} {tag : Tag} (h : ∀ x ∈ pairMap, x.tag ≠ some tag ∧ x.tag ≠ none) :
    pairFor pairMap tag = none := by
  rw [pairFor_unassigned fun x hx => (h x hx).1, List.findIdx?_eq_none_iff]
  simpa [← Option.isSome_iff_ne_none] using fun x hx => (h x hx).2

/-! ### The engine's operations as changes of the store -/

@[simp] theorem State.beginOp_store (s : State) (op : StoreOp) : (s.beginOp op).store =
    { s.store with array := s.store.array.underWrite op, engine := ⟨some op, 0, 0, false⟩ } := rfl

/-- The store state of a held record is set, and no other entry changes. -/
theorem State.setStoreState_find_held {s : State} {tag : Tag} {e : Entry} (h : s.table.find tag = some e) (st : StoreState)
    (u : Tag) :
    (s.setStoreState tag st).table.find u = if u = tag then some { e with storeState := st } else s.table.find u :=
  s.modifyEntry_find tag _ e h (RecordTable.find_tag h : e.tag = tag) u

/-! ### What the engine takes (R142, R146) -/

section Takes
variable {s : State}

theorem LinkState.storeRuns_iff (l : LinkState) :
    l.storeRuns = true ↔ l = .quiesced ∨ l = .joining ∨ l = .active ∨ l = .faulted := by
  cases l <;> simp [LinkState.storeRuns]

theorem State.engineTakes_of (hlink : s.control.link = .quiesced ∨ s.control.link = .joining ∨ s.control.link = .active ∨
    s.control.link = .faulted) (hop : s.store.engine.op = none) : s.engineTakes = true :=
  s.engineTakes_iff.2 ⟨s.control.link.storeRuns_iff.2 hlink, hop⟩

theorem State.not_engineTakes_of (h : s.store.engine.op ≠ none ∨ s.control.link = .start ∨ s.control.link = .frozen) :
    s.engineTakes = false := by
  rcases h with h | h | h
  · simp [State.engineTakes, Option.isSome_iff_ne_none, h]
  · simp [State.engineTakes, LinkState.storeRuns, h]
  · simp [State.engineTakes, LinkState.storeRuns, h]

/-- R142: the head of the Commit Queue is committed to its pair. -/
theorem exec_commitStart_commits {tag : Tag} {rest : List Tag} {e : Entry} {pair : Nat} (htakes : s.engineTakes = true)
    (hrequest : s.store.request = none) (hq : s.store.commitQ = tag :: rest) (he : s.table.find tag = some e)
    (hpair : pairFor s.store.pairMap tag = some pair) : exec .commitStart s = .next (s.startCommitOn e pair) := by
  refine congrArg Host.Outcome.next ?_
  simp [htakes, hrequest, hq, he, hpair]

/-- R140: a head that can be given no pair is dropped. -/
theorem exec_commitStart_drops {tag : Tag} {rest : List Tag} {e : Entry} (htakes : s.engineTakes = true)
    (hrequest : s.store.request = none) (hq : s.store.commitQ = tag :: rest) (he : s.table.find tag = some e)
    (hpair : pairFor s.store.pairMap tag = none) : exec .commitStart s = .next (s.dropHead tag) := by
  refine congrArg Host.Outcome.next ?_
  simp [htakes, hrequest, hq, he, hpair]

theorem exec_commitStart_held (h : s.engineTakes = false ∨ s.store.request ≠ none) : exec .commitStart s = .next s := by
  refine congrArg Host.Outcome.next (if_neg ?_)
  rcases h with h | h <;> simp [h, Option.isNone_iff_eq_none]

theorem exec_configWriteStart_takes {f : ConfigFields} (htakes : s.engineTakes = true)
    (hrequest : s.store.request = some (.configWrite f)) :
    exec .configWriteStart s = .next ((s.setStore { s.store with request := none }).beginOp (.configWrite f)) := by
  refine congrArg Host.Outcome.next ?_
  simp [hrequest, htakes]

theorem exec_configWriteStart_held (h : s.engineTakes = false) : exec .configWriteStart s = .next s := by
  refine congrArg Host.Outcome.next ?_
  split
  · exact if_neg (by simp [h])
  · rfl

theorem exec_wipeStart_takes (htakes : s.engineTakes = true) (hrequest : s.store.request = some .wipe) :
    exec .wipeStart s = .next ((s.setStore { s.store with request := none }).clearStored.beginOp (.wipe 0 true)) := by
  refine congrArg Host.Outcome.next ?_
  simp [hrequest, htakes]

theorem exec_wipeStart_held (h : s.engineTakes = false) : exec .wipeStart s = .next s := by
  refine congrArg Host.Outcome.next ?_
  split
  · exact if_neg (by simp [h])
  · rfl

/-! ### A commit begun (R142) -/

/-- R142: the entry is COMMITTING, the pair is the tag's with its target INVALID, and the target is under write. -/
theorem State.startCommitOn_eq {pair : Nat} {m : PairMapEntry} (hm : s.store.pairMap[pair]? = some m) (e : Entry) :
    s.startCommitOn e pair = ((s.setStoreState e.tag .committing).setPairMap
      (s.store.pairMap.set pair ({ m with tag := some e.tag }.setCond m.target .invalid))).beginOp
      (.commit e.tag pair m.target e.image false) := by
  simp [State.startCommitOn, hm]

theorem PairMapEntry.setCond_target (m : PairMapEntry) (tag : Option Tag) :
    { m with tag := tag }.setCond m.target .invalid = { m with
      tag := tag
      condA := if m.newest = some .a then m.condA else .invalid
      condB := if m.newest = some .a then .invalid else m.condB } := by
  rw [m.target_eq]
  split_ifs <;> rfl

/-- Of the store, the engine, the pair's map entry and the target alone change. -/
theorem State.startCommitOn_store {pair : Nat} {m : PairMapEntry} (hm : s.store.pairMap[pair]? = some m) (e : Entry) :
    (s.startCommitOn e pair).store = { s.store with
      engine := ⟨some (.commit e.tag pair m.target e.image false), 0, 0, false⟩
      pairMap := s.store.pairMap.set pair ({ m with tag := some e.tag }.setCond m.target .invalid)
      array := s.store.array.setSlot pair m.target .writing } := by
  simp [State.startCommitOn_eq hm, RetainedArray.underWrite]

/-- R142 steps 2 and 3, R138: the fields of the image formed. -/
theorem Entry.image_fields (e : Entry) : e.image.tag = e.tag ∧ e.image.cls = e.cls ∧ e.image.pair = e.pair ∧
    e.image.owner = e.owner.getD 0#4 ∧ e.image.length = BitVec.ofNat 6 e.value.length ∧
    e.image.value = e.value ++ List.replicate (32 - e.value.length) 0#8 ∧ e.image.check = e.image.code :=
  ⟨rfl, rfl, rfl, rfl, rfl, rfl, by simp only [Entry.image, SlotImage.code]⟩

end Takes

/-- Settles O58: the head of the Commit Queue is committed to the pair that `pairFor` gives or dropped, and a pending request
begins its own operation. -/
theorem engineTakesItsNextOperation : Obligations.EngineTakesItsNextOperation := by
  refine ⟨fun s tag rest e hlink hop hrequest hq he => ⟨fun pair m hm hpair => ?_, fun hfull => ?_⟩,
    fun s hlink hop => ⟨fun f hrequest => ?_, fun hrequest => ?_⟩, fun s => ⟨fun hbusy => ?_, fun hrequest => ?_⟩⟩
  · have hfor : pairFor s.store.pairMap tag = some pair := by
      rcases hpair with ⟨htag, hfirst⟩ | ⟨hnone, hfree, hfirst⟩
      · exact pairFor_assigned hm htag hfirst
      · exact pairFor_free hm hnone hfree hfirst
    have hexec := exec_commitStart_commits (State.engineTakes_of hlink hop) hrequest hq he hfor
    obtain rfl : e.tag = tag := RecordTable.find_tag he
    have hstore := State.startCommitOn_store hm e
    obtain ⟨himage, hcls, hversion, howner, hlength, hvalue, hcheck⟩ := e.image_fields
    obtain ⟨hlt, -⟩ := List.getElem?_eq_some_iff.1 hm
    refine ⟨_, e.image, hexec, himage, hcls, hversion, howner, hlength, hvalue, hcheck, ?_, fun u => ?_, ?_, fun j hj => ?_,
      fun p hp => ?_, fun j hj => ?_, ?_, ?_⟩
    · rw [hstore, m.target_eq]
    · simpa [State.startCommitOn_eq hm] using State.setStoreState_find_held he .committing u
    · rw [hstore, ← m.setCond_target]
      exact List.getElem?_set_self hlt
    · rw [hstore]
      exact List.getElem?_set_ne hj.symm
    · rw [hstore]
      refine (RetainedArray.setSlot_same hp _ _).trans ?_
      rw [m.target_eq]
      split_ifs <;> simp_all
    · rw [hstore]
      exact s.store.array.setSlot_other hj _ _
    · rw [hstore]
      rfl
    · simp [State.keepsAllBut, Block.all, Block.agrees]
  · refine ⟨_, exec_commitStart_drops (State.engineTakes_of hlink hop) hrequest hq he (pairFor_full hfull), ?_,
      fun u => ?_, ?_, ?_⟩
    · simp [State.dropHead, hq]
    · exact State.setStoreState_find_held (s := s.setStore { s.store with commitQ := s.store.commitQ.tail }) he .unstored u
    · simp [State.dropHead, HostPort.setNotices, Notice.commitFailed]
    · simp [State.keepsAllBut, Block.all, Block.agrees]
  · refine ⟨_, exec_configWriteStart_takes (State.engineTakes_of hlink hop) hrequest, rfl, rfl, rfl, rfl, rfl, ?_⟩
    simp [State.keepsAllBut, Block.all, Block.agrees]
  · refine ⟨_, exec_wipeStart_takes (State.engineTakes_of hlink hop) hrequest, rfl, rfl, rfl, rfl, rfl, rfl, rfl, rfl, ?_⟩
    simp [State.keepsAllBut, Block.all, Block.agrees]
  · have htakes := State.not_engineTakes_of hbusy
    exact ⟨exec_commitStart_held (.inl htakes), exec_configWriteStart_held htakes, exec_wipeStart_held htakes⟩
  · exact exec_commitStart_held (.inr hrequest)

/-! ### START_SEQUENCE (R158) -/

/-- R155, R156: the configuration that a valid area holds. -/
theorem ConfigArea.valid?_holds {f : ConfigFields} {check : BitVec 16} (hcheck : check = f.code) (hperiod : f.period ≠ 0#8) :
    (ConfigArea.holds f check).valid? = some f := by
  simp [ConfigArea.valid?, hcheck, hperiod]

/-- Settles O55: the start runs, and what it reads is the array's. -/
theorem startSequenceReadsTheStore : Obligations.StartSequenceReadsTheStore := by
  intro s hlink hreset hop hpower
  have hconfig : s.runStart.control.config = s.store.array.config.valid? := rfl
  refine ⟨s.runStart, exec_startSequence hlink hreset hop hpower, fun f check hholds hcheck hperiod => ?_, fun herased => ?_,
    hlink, rfl, rfl, rfl, rfl, rfl, rfl, rfl, ?_⟩
  · rw [hconfig, hholds, ConfigArea.valid?_holds hcheck hperiod]
  · rw [hconfig, herased]
    rfl
  · simp [State.keepsAllBut, Block.all, Block.agrees]

end Sys2Proof.Machine
end

section
/-! SUPPORT, SETTLES O59, O60. How the operations of the write engine end: the verify that matches, the attempt that fails, and
the second failure. -/

namespace Sys2Proof.Machine

/-! ### The pair map -/

@[simp] theorem State.modifyPair_store (s : State) (pair : Nat) (f : PairMapEntry → PairMapEntry) :
    (s.modifyPair pair f).store = { s.store with pairMap := s.store.pairMap.modify pair f } := rfl

theorem PairMapEntry.modify_same {pairMap : List PairMapEntry} {pair : Nat} {m : PairMapEntry} (h : pairMap[pair]? = some m)
    (f : PairMapEntry → PairMapEntry) : (pairMap.modify pair f)[pair]? = some (f m) := by
  rw [List.getElem?_modify_eq, h, Option.map_eq_map, Option.map_some]

theorem PairMapEntry.verified_eq (m : PairMapEntry) (target : SlotName) : m.verified target = { m with
    condA := if target = .a then .valid else m.condA
    condB := if target = .b then .valid else m.condB
    newest := some target } := by
  cases target <;> rfl

/-! ### The array behind a failed attempt (R137, R144) -/

/-- The array as an attempt of the operation that failed may leave it: stopped at the write limit, or misread. -/
def RetainedArray.FailsTo (m : RetainedArray) (op : StoreOp) (m' : RetainedArray) : Prop :=
  ∃ n, m' = m.cutShort n op ∨ m' = m.misread n op

theorem RetainedArray.FailsTo.commit {m m' : RetainedArray} {tag : Tag} {pair : Nat} {target : SlotName} {image : SlotImage}
    {changed : Bool} (h : m.FailsTo (.commit tag pair target image changed) m') :
    ∃ left, (∀ i, left ≠ .copy i) ∧ m' = m.setSlot pair target left := by
  obtain ⟨n, rfl | rfl⟩ := h
  · refine ⟨tornSlot n, fun i => ?_, rfl⟩
    unfold tornSlot
    split <;> simp
  · exact ⟨.torn, by simp, rfl⟩

theorem RetainedArray.FailsTo.configWrite {m m' : RetainedArray} {f : ConfigFields} (h : m.FailsTo (.configWrite f) m') :
    m'.config.valid? = none := by
  obtain ⟨n, rfl | rfl⟩ := h
  · simp only [RetainedArray.cutShort, tornConfigArea]
    split <;> rfl
  · rfl

/-- The state behind a failed attempt, before the rewrite or the end of the operation. -/
def State.failed (s : State) (m : RetainedArray) : State :=
  (s.setArray m).useFree 2

@[simp] theorem State.failed_frame (s : State) (m : RetainedArray) :
    (s.failed m).pending = s.pending ∧ (s.failed m).now = s.now ∧ (s.failed m).resetPin = s.resetPin ∧
      (s.failed m).pfailPin = s.pfailPin ∧ (s.failed m).control = s.control ∧ (s.failed m).line = s.line ∧
      (s.failed m).fe = s.fe ∧ (s.failed m).table = s.table ∧ (s.failed m).sendQ = s.sendQ ∧
      (s.failed m).sync = s.sync ∧ (s.failed m).store = { s.store with array := m } ∧ (s.failed m).port = s.port ∧
      (s.failed m).reports = s.reports := by
  simp [State.failed]

theorem State.failed_keeps (s : State) (m : RetainedArray) : s.keepsAllBut (s.failed m) [.store, .free] = true := by
  simp [State.keepsAllBut, Block.all, Block.agrees]

/-! ### The reports of the array (R144, R149) -/

section Reports
variable {s : State} {op : StoreOp} {failures timer : Nat} {c : Instr}

theorem exec_writeDone_good (hop : s.store.engine.op = some op) :
    exec (.writeDone true true) s = .next (s.opSucceeds op) := by
  refine congrArg Host.Outcome.next ?_
  simp [hop]

theorem exec_writeDone_stopped (s : State) (good : Bool) : exec (.writeDone false good) s = .next s := by
  refine congrArg Host.Outcome.next ?_
  split <;> rfl

theorem exec_writeLimit_begun (h : s.store.engine.timer = 0) : exec .writeLimit s = .next s := by
  refine congrArg Host.Outcome.next ?_
  split
  · rfl
  · exact if_pos h

/-- R144: an attempt fails at the write limit and at a verify that does not match. -/
theorem exec_attemptFails (hengine : s.store.engine = ⟨some op, failures, timer, false⟩)
    (hc : (c = .writeLimit ∧ 0 < timer) ∨ c = .writeDone true false) :
    ∃ m, s.store.array.FailsTo op m ∧ exec c s = .next ((s.failed m).opFails op) := by
  rcases hc with ⟨rfl, htimer⟩ | rfl
  · refine ⟨_, ⟨s.free, .inl rfl⟩, congrArg Host.Outcome.next ?_⟩
    simp [hengine, htimer.ne', State.failed]
  · refine ⟨_, ⟨s.free, .inr rfl⟩, congrArg Host.Outcome.next ?_⟩
    simp [hengine, State.failed]

/-- R145: the first failure is followed by the rewrite. -/
theorem exec_attemptFails_first (hengine : s.store.engine = ⟨some op, 0, timer, false⟩)
    (hc : (c = .writeLimit ∧ 0 < timer) ∨ c = .writeDone true false) :
    ∃ m, s.store.array.FailsTo op m ∧ exec c s = .next ((s.failed m).rewrite op) := by
  obtain ⟨m, hm, hexec⟩ := exec_attemptFails hengine hc
  exact ⟨m, hm, by simpa [State.opFails, hengine] using hexec⟩

/-- R145: a later failure ends the operation. -/
theorem exec_attemptFails_finally (hengine : s.store.engine = ⟨some op, failures, timer, false⟩) (hagain : failures ≠ 0)
    (hc : (c = .writeLimit ∧ 0 < timer) ∨ c = .writeDone true false) :
    ∃ m, s.store.array.FailsTo op m ∧ exec c s = .next ((s.failed m).opFailsFinally op) := by
  obtain ⟨m, hm, hexec⟩ := exec_attemptFails hengine hc
  exact ⟨m, hm, by simpa [State.opFails, hengine, hagain] using hexec⟩

end Reports

/-! ### The rewrite (R145) -/

@[simp] theorem State.rewrite_store (s : State) (op : StoreOp) : (s.rewrite op).store = { s.store with
    array := s.store.array.underWrite op, engine := ⟨some op, 1, 0, s.store.engine.discard⟩ } := rfl

theorem State.failed_rewrite_keeps (s : State) (m : RetainedArray) (op : StoreOp) :
    s.keepsAllBut ((s.failed m).rewrite op) [.store, .free] = true := by
  simp [State.keepsAllBut, Block.all, Block.agrees]

/-! ### The end of a commit (R145, Table 71) -/

section Commit
variable {s : State} {tag : Tag} {pair : Nat} {target : SlotName} {image : SlotImage} {changed : Bool} {failures timer : Nat}
  {c : Instr}

theorem State.endCommit_store (s : State) (tag : Tag) (changed : Bool) (st : StoreState) :
    (s.endCommit tag changed st).store = { s.store with
      commitQ := if changed then s.store.commitQ.tail ++ [tag] else s.store.commitQ.tail
      engine := .initial } := by
  simp [State.endCommit, State.freeEngine]

theorem State.endCommit_find {e : Entry} (h : s.table.find tag = some e) (changed : Bool) (st : StoreState) (u : Tag) :
    (s.endCommit tag changed st).table.find u =
      if u = tag then some { e with storeState := if changed then .dirty else st } else s.table.find u :=
  State.setStoreState_find_held (s := s.setStore { s.store with
    commitQ := if changed then s.store.commitQ.tail ++ [tag] else s.store.commitQ.tail }) h _ u

theorem State.opSucceeds_commit (h : s.store.engine.discard = false) :
    s.opSucceeds (.commit tag pair target image changed) =
      ((s.setArray (s.store.array.setSlot pair target (.copy image))).modifyPair pair fun m => m.verified target).endCommit
        tag changed .clean := by
  simp [State.opSucceeds, h, RetainedArray.written]

theorem State.opFailsFinally_commit (h : s.store.engine.discard = false) :
    s.opFailsFinally (.commit tag pair target image changed) =
      (s.endCommit tag changed .failed).post (.commitFailed (some tag) .verify) := by
  simp [State.opFailsFinally, h]

/-- R137: a target left without a copy leaves the other slot and the other pairs. -/
theorem State.target_left {t : State} {left : SlotContent} {g : WriteEngine} {q : List Tag} (hleft : ∀ i, left ≠ .copy i)
    (hstore : t.store = { s.store with
      engine := g, commitQ := q, array := s.store.array.setSlot pair target left }) :
    (∀ p, s.store.array.pairs[pair]? = some p → ∃ left, (∀ i, left ≠ .copy i) ∧
      t.store.array.pairs[pair]? = some (if target = .a then ⟨left, p.b⟩ else ⟨p.a, left⟩)) ∧
    (∀ j, j ≠ pair → t.store.array.pairs[j]? = s.store.array.pairs[j]?) ∧
    t.store = { s.store with
      engine := t.store.engine, commitQ := t.store.commitQ
      array := { s.store.array with pairs := t.store.array.pairs } } := by
  rw [hstore]
  exact ⟨fun _ hp => ⟨left, hleft, RetainedArray.setSlot_same hp _ _⟩,
    fun _ hj => s.store.array.setSlot_other hj _ _, rfl⟩

/-- R145: the rewrite of a commit puts its target under write, whatever the failed attempt left there. -/
theorem exec_commitFails_first (hengine : s.store.engine = ⟨some (.commit tag pair target image changed), 0, timer, false⟩)
    (hc : (c = .writeLimit ∧ 0 < timer) ∨ c = .writeDone true false) : ∃ t, exec c s = .next t ∧
      t.store = { s.store with
        engine := ⟨some (.commit tag pair target image changed), 1, 0, false⟩
        array := s.store.array.setSlot pair target .writing } ∧
      s.keepsAllBut t [.store, .free] = true := by
  obtain ⟨m, hm, hexec⟩ := exec_attemptFails_first hengine hc
  obtain ⟨left, -, rfl⟩ := hm.commit
  refine ⟨_, hexec, ?_, State.failed_rewrite_keeps _ _ _⟩
  simp [RetainedArray.underWrite, RetainedArray.setSlot_setSlot, hengine]

/-- R145, R152: the second failure of a commit leaves its target without a copy and posts COMMIT_FAILED. -/
theorem exec_commitFails_finally {e : Entry}
    (hengine : s.store.engine = ⟨some (.commit tag pair target image changed), failures, timer, false⟩)
    (hagain : failures ≠ 0) (he : s.table.find tag = some e)
    (hc : (c = .writeLimit ∧ 0 < timer) ∨ c = .writeDone true false) :
    ∃ t left, exec c s = .next t ∧ (∀ i, left ≠ .copy i) ∧
      t.store = { s.store with
        engine := .initial
        commitQ := if changed then s.store.commitQ.tail ++ [tag] else s.store.commitQ.tail
        array := s.store.array.setSlot pair target left } ∧
      (∀ u, t.table.find u = if u = tag then
        some { e with storeState := if changed then .dirty else .failed } else s.table.find u) ∧
      t.port.notices = postInto s.port.notices (.commitFailed (some tag) .verify) ∧
      s.keepsAllBut t [.store, .table, .port, .free] = true := by
  obtain ⟨m, hm, hexec⟩ := exec_attemptFails_finally hengine hagain hc
  obtain ⟨left, hleft, rfl⟩ := hm.commit
  rw [State.opFailsFinally_commit (by simp [hengine])] at hexec
  refine ⟨_, left, hexec, hleft, ?_, fun u => ?_, ?_, ?_⟩
  · simp [State.endCommit_store]
  · simpa using State.endCommit_find (s := s.failed _) (by simpa using he) changed .failed u
  · simp [HostPort.setNotices]
  · simp [State.keepsAllBut, Block.all, Block.agrees]

end Commit

/-- Settles O59: an end takes the head off the Commit Queue and sets the entry's state, and a first failure puts the same target
under write again. -/
theorem commitsEnd : Obligations.CommitsEnd := by
  refine ⟨fun s tag pair target image changed good e rest failures timer m hengine hq he hm =>
    ⟨?_, exec_writeDone_stopped s good⟩, fun s tag pair target image changed e rest failures timer hengine hq he =>
    ⟨fun htimer => exec_writeLimit_begun (by rw [hengine]; exact htimer), fun c hc => ?_⟩⟩
  · have hexec := exec_writeDone_good (s := s) (by rw [hengine])
    rw [State.opSucceeds_commit (by rw [hengine])] at hexec
    refine ⟨_, hexec, ?_, ?_, fun u => ?_, ?_, fun p hp => ?_, fun j hj => ⟨?_, ?_⟩, ?_, ?_⟩
    · rw [State.endCommit_store]
      rfl
    · simp [State.endCommit_store, hq]
    · exact State.endCommit_find (by simpa [State.modifyPair] using he) changed .clean u
    · rw [State.endCommit_store, ← m.verified_eq]
      exact PairMapEntry.modify_same hm _
    · rw [State.endCommit_store]
      exact RetainedArray.setSlot_same hp _ _
    · rw [State.endCommit_store]
      exact s.store.array.setSlot_other hj _ _
    · rw [State.endCommit_store]
      exact List.getElem?_modify_ne _ _ hj.symm
    · rw [State.endCommit_store]
      rfl
    · simp [State.modifyPair, State.keepsAllBut, Block.all, Block.agrees]
  · by_cases hfirst : failures = 0
    · subst hfirst
      obtain ⟨t, hexec, hstore, hkeeps⟩ := exec_commitFails_first hengine hc
      obtain ⟨hsame, hother, hrest⟩ := State.target_left (by simp) hstore
      refine ⟨t, hexec, hsame, hother, hrest, fun _ => ⟨?_, ?_, ?_, hkeeps⟩, fun h => absurd h (by simp)⟩
      all_goals rw [hstore]
    · obtain ⟨t, left, hexec, hleft, hstore, hfind, hnotices, hkeeps⟩ := exec_commitFails_finally hengine hfirst he hc
      obtain ⟨hsame, hother, hrest⟩ := State.target_left hleft hstore
      refine ⟨t, hexec, hsame, hother, hrest, fun h => absurd h hfirst, fun _ => ⟨?_, ?_, ?_, hfind, hnotices, hkeeps⟩⟩
      · rw [hstore]
        rfl
      · rw [hstore]
      · rw [hstore, hq]
        rfl

/-! ### The end of a CONFIG WRITE (R147) -/

section Others
variable {s : State} {failures timer : Nat} {c : Instr}

/-- The engine is free, and the request in hand has its answer. -/
theorem State.freeEngine_answer (h : s.port.state = .working) (code : ResultCode) :
    (s.freeEngine.answer code []).store = { s.store with engine := .initial } ∧
      (s.freeEngine.answer code []).port.state = .ready ∧
      (s.freeEngine.answer code []).port.response = some ⟨code, []⟩ ∧
      s.keepsAllBut (s.freeEngine.answer code []) [.store, .port] = true := by
  refine ⟨by simp [State.freeEngine], ?_, ?_, by simp [State.keepsAllBut, Block.all, Block.agrees]⟩
  all_goals rw [State.answer_working _ _ _ (by simpa using h)]
  all_goals rfl

theorem State.opSucceeds_configWrite (h : s.store.engine.discard = false) (f : ConfigFields) :
    s.opSucceeds (.configWrite f) = (s.setArray (s.store.array.written (.configWrite f))).freeEngine.answer .ok [] := by
  simp [State.opSucceeds, h]

theorem State.opFailsFinally_configWrite (h : s.store.engine.discard = false) (f : ConfigFields) :
    s.opFailsFinally (.configWrite f) = s.freeEngine.answer .storeFailed [] := by
  simp [State.opFailsFinally, h]

/-! ### The erase of a pair (R148) -/

theorem State.modifyPair_keeps (s : State) (pair : Nat) (f : PairMapEntry → PairMapEntry) :
    s.keepsAllBut (s.modifyPair pair f) [.store] = true := by
  simp [State.modifyPair, State.keepsAllBut, Block.all, Block.agrees]

/-- R148: a pair that reads ERASED is free, and the WIPE goes on from it. -/
theorem exec_wipePair_erased {pair : Nat} {allFreed : Bool}
    (hengine : s.store.engine = ⟨some (.wipe pair allFreed), failures, timer, false⟩) :
    ∃ u : State, exec (.writeDone true true) s = .next (u.nextWipe pair allFreed) ∧
      u.store.pairMap = s.store.pairMap.modify pair (fun _ => .free) ∧ u.store.engine.discard = false ∧ u.port = s.port ∧
      s.keepsAllBut u [.store] = true := by
  refine ⟨_, exec_writeDone_good (by rw [hengine]), ?_, ?_, ?_, ?_⟩
  · simp
  · simp [hengine]
  · simp [State.modifyPair]
  · simp [State.modifyPair, State.keepsAllBut, Block.all, Block.agrees]

/-- R148: a pair whose second erase fails is spoilt, and the WIPE goes on from it, not all freed. -/
theorem exec_wipePair_fails {pair : Nat} {allFreed : Bool}
    (hengine : s.store.engine = ⟨some (.wipe pair allFreed), failures, timer, false⟩) (hagain : failures ≠ 0)
    (hc : (c = .writeLimit ∧ 0 < timer) ∨ c = .writeDone true false) :
    ∃ u : State, exec c s = .next (u.nextWipe pair false) ∧
      u.store.pairMap = s.store.pairMap.modify pair PairMapEntry.spoil ∧ u.store.engine.discard = false ∧ u.port = s.port ∧
      s.keepsAllBut u [.store, .free] = true := by
  obtain ⟨m, -, hexec⟩ := exec_attemptFails_finally hengine hagain hc
  refine ⟨(s.failed m).modifyPair pair PairMapEntry.spoil, hexec, ?_, ?_, ?_, ?_⟩
  · simp
  · simp [hengine]
  · simp [State.modifyPair]
  · exact State.keepsAllBut_trans (s.failed_keeps m) (State.modifyPair_keeps _ _ _) (by simp) (by simp)

theorem State.nextWipe_pairMap (s : State) (pair : Nat) (allFreed : Bool) :
    (s.nextWipe pair allFreed).store.pairMap = s.store.pairMap := by
  unfold State.nextWipe
  (repeat' split) <;> simp [State.freeEngine]

/-- R148: below pair 47 the erase of the next pair begins. -/
theorem State.nextWipe_goesOn (h : s.store.engine.discard = false) {pair : Nat} (hpair : pair < 47) (allFreed : Bool) :
    (s.nextWipe pair allFreed).store.engine = ⟨some (.wipe (pair + 1) allFreed), 0, 0, false⟩ ∧
      s.keepsAllBut (s.nextWipe pair allFreed) [.store] = true := by
  have hlt : pair + 1 < maxPlaces := Nat.succ_lt_succ hpair
  simp [State.nextWipe, hlt, h, State.keepsAllBut, Block.all, Block.agrees]

/-- R148: the WIPE ends after pair 47 with its result. -/
theorem State.nextWipe_ends (h : s.store.engine.discard = false) (hworking : s.port.state = .working) (allFreed : Bool) :
    (s.nextWipe 47 allFreed).store.engine.op = none ∧ (s.nextWipe 47 allFreed).port.state = .ready ∧
      (s.nextWipe 47 allFreed).port.response = some ⟨if allFreed then .ok else .storeFailed, []⟩ ∧
      s.keepsAllBut (s.nextWipe 47 allFreed) [.store, .port] = true := by
  have hends : s.nextWipe 47 allFreed = s.freeEngine.answer (if allFreed then .ok else .storeFailed) [] := by
    simp [State.nextWipe, maxPlaces, h]
  obtain ⟨hstore, hready, hanswer, hkeeps⟩ := State.freeEngine_answer hworking (if allFreed then .ok else .storeFailed)
  rw [hends]
  exact ⟨by rw [hstore]; rfl, hready, hanswer, hkeeps⟩

/-! ### The end of the incarnation write (R152, R158) -/

/-- R158 step 5, R163, R181: the start ends in JOINING with a configuration in force, else in QUIESCED. -/
theorem State.leaveStart_leaves (h : s.control.link = .start) :
    s.leaveStart.control = { s.control with
      link := if s.control.config.isSome then .joining else .quiesced
      reason := if s.control.config.isSome then .started else .configInvalid
      watch := .good
      filter := 0 } ∧
    s.leaveStart.port.state = .idle ∧ s.leaveStart.port.notices = postInto s.port.notices
      (.link (if s.control.config.isSome then .started else .configInvalid)) := by
  cases hconfig : s.control.config.isSome <;>
    simp [State.leaveStart, h, Control.configValid, hconfig, State.move, HostPort.setNotices]

/-- R152: the written slot holds the new station copy, and the start is left. -/
theorem exec_incarnation_written {slot : SlotName} {v : BitVec 8}
    (hengine : s.store.engine = ⟨some (.incarnation slot v), failures, timer, false⟩) :
    ∃ u : State, exec (.writeDone true true) s = .next u.leaveStart ∧ u.control = s.control ∧
      u.port.notices = s.port.notices ∧ u.store = { s.store with
        engine := .initial, array := s.store.array.setStation slot (.copy v (stationCode v)) } := by
  refine ⟨(s.setArray (s.store.array.setStation slot (.copy v (stationCode v)))).freeEngine, ?_, ?_, ?_, rfl⟩
  · rw [exec_writeDone_good (op := .incarnation slot v) (by rw [hengine])]
    simp [State.opSucceeds, RetainedArray.written, hengine]
  · simp
  · simp

/-- R152: after the second failure COMMIT_FAILED is posted, and the start is left. -/
theorem exec_incarnation_fails {slot : SlotName} {v : BitVec 8}
    (hengine : s.store.engine = ⟨some (.incarnation slot v), failures, timer, false⟩) (hagain : failures ≠ 0)
    (hc : (c = .writeLimit ∧ 0 < timer) ∨ c = .writeDone true false) :
    ∃ u : State, exec c s = .next u.leaveStart ∧ u.control = s.control ∧
      u.port.notices = postInto s.port.notices (.commitFailed none .verify) ∧ u.store.engine = .initial := by
  obtain ⟨m, -, hexec⟩ := exec_attemptFails_finally hengine hagain hc
  refine ⟨(s.failed m).freeEngine.post (.commitFailed none .verify), ?_, ?_, ?_, ?_⟩
  · rw [hexec]
    simp [State.opFailsFinally, hengine]
  · simp
  · simp [HostPort.setNotices]
  · simp [State.freeEngine]

theorem StationSlot.value?_copy (v : BitVec 8) : (StationSlot.copy v (stationCode v)).value? = some v :=
  StationSlot.value?_eq_some.2 ⟨_, rfl, rfl⟩

end Others

/-- Settles O60: the start is left, the request in hand is answered, or the WIPE goes on to its next pair. -/
theorem writeDoneEndsTheOtherOperations : Obligations.WriteDoneEndsTheOtherOperations := by
  refine fun s failures timer => ⟨fun slot v hengine hlink => ?_, fun f hengine hworking hperiod => ?_,
    fun n all m hengine hn hm => ?_, fun all hengine hworking => ?_, fun op hengine _ c hc => ?_,
    fun n all m hengine hm c hc => ?_, fun f hengine hworking c hc => ?_, fun slot v hengine hlink c hc => ?_⟩
  · obtain ⟨u, hexec, hu, hposted, hstore⟩ := exec_incarnation_written hengine
    obtain ⟨hcontrol, hidle, hnotices⟩ := State.leaveStart_leaves (s := u) (by rw [hu]; exact hlink)
    rw [hu] at hcontrol hnotices
    rw [hposted] at hnotices
    refine ⟨_, hexec, hidle, by rw [hcontrol], by rw [hcontrol], by rw [hcontrol], by rw [hcontrol], hnotices, ?_, ?_, ?_⟩
    · simp [hstore, WriteEngine.initial]
    · rintro rfl
      simp [hstore, RetainedArray.setStation, StationSlot.value?_copy]
    · rintro rfl
      simp [hstore, RetainedArray.setStation, StationSlot.value?_copy]
  · have hexec := exec_writeDone_good (s := s) (by rw [hengine])
    rw [State.opSucceeds_configWrite (by rw [hengine])] at hexec
    obtain ⟨hstore, hready, hok, hkeeps⟩ := State.freeEngine_answer
      (s := s.setArray (s.store.array.written (.configWrite f))) hworking .ok
    refine ⟨_, hexec, hready, hok, ?_, ?_, by simp, hkeeps⟩
    · rw [hstore]
      exact ConfigArea.valid?_holds rfl hperiod
    · rw [hstore]
      rfl
  · obtain ⟨u, hexec, hmap, hdiscard, -, hu⟩ := exec_wipePair_erased hengine
    obtain ⟨hnext, hkeeps⟩ := State.nextWipe_goesOn hdiscard hn all
    refine ⟨_, hexec, hnext, ?_, State.keepsAllBut_trans hu hkeeps (by simp) (by simp)⟩
    rw [State.nextWipe_pairMap, hmap]
    exact PairMapEntry.modify_same hm fun _ => .free
  · obtain ⟨u, hexec, -, hdiscard, hport, hu⟩ := exec_wipePair_erased hengine
    obtain ⟨hfree, hready, hanswer, hkeeps⟩ := State.nextWipe_ends hdiscard (by rw [hport]; exact hworking) all
    exact ⟨_, hexec, hfree, hready, hanswer, State.keepsAllBut_trans hu hkeeps (by simp) (by simp)⟩
  · obtain ⟨m, -, hexec⟩ := exec_attemptFails_first hengine hc
    refine ⟨_, hexec, ?_, ?_, ?_, ?_, State.failed_rewrite_keeps _ _ _⟩
    all_goals simp [hengine]
  · obtain ⟨u, hexec, hmap, hdiscard, hport, hu⟩ := exec_wipePair_fails hengine Nat.one_ne_zero hc
    refine ⟨_, hexec, ?_, fun j hj => ?_, fun hn => ?_, fun hn hworking => ?_⟩
    · rw [State.nextWipe_pairMap, hmap]
      exact PairMapEntry.modify_same hm PairMapEntry.spoil
    · rw [State.nextWipe_pairMap, hmap]
      exact List.getElem?_modify_ne _ _ hj.symm
    · obtain ⟨hnext, hkeeps⟩ := State.nextWipe_goesOn hdiscard hn false
      exact ⟨hnext, State.keepsAllBut_trans hu hkeeps (by simp) (by simp)⟩
    · subst hn
      obtain ⟨hfree, hready, hanswer, hkeeps⟩ := State.nextWipe_ends hdiscard (by rw [hport]; exact hworking) false
      exact ⟨hfree, hready, hanswer, State.keepsAllBut_trans hu hkeeps (by simp) (by simp)⟩
  · obtain ⟨m, hm, hexec⟩ := exec_attemptFails_finally hengine Nat.one_ne_zero hc
    rw [State.opFailsFinally_configWrite (by simp [hengine])] at hexec
    obtain ⟨hstore, hready, hanswer, hkeeps⟩ := State.freeEngine_answer (s := s.failed m) hworking .storeFailed
    refine ⟨_, hexec, ?_, hready, hanswer, ?_, State.keepsAllBut_trans (s.failed_keeps m) hkeeps (by simp) (by simp)⟩
    · rw [hstore]
      rfl
    · rw [hstore]
      exact hm.configWrite
  · obtain ⟨u, hexec, hu, hposted, hengine'⟩ := exec_incarnation_fails hengine Nat.one_ne_zero hc
    obtain ⟨hcontrol, hidle, hnotices⟩ := State.leaveStart_leaves (s := u) (by rw [hu]; exact hlink)
    rw [hu] at hcontrol hnotices
    rw [hposted] at hnotices
    refine ⟨_, hexec, ?_, by rw [hcontrol], hidle, hnotices⟩
    simp [hengine', WriteEngine.initial]

end Sys2Proof.Machine
end

section
/-! SUPPORT, SETTLES O12. The state after reset. -/

namespace Sys2Proof.Machine

/-- The array of a new part has its 48 pairs, and an empty table and empty queues agree with everything. -/
theorem State.reset_invariants : State.reset.tableInv = true ∧ State.reset.queueInv = true ∧
    State.reset.linesInv = true ∧ State.reset.quiescedInv = true ∧ State.reset.portInv = true ∧
    State.reset.commitInv = true := by
  decide

/-- Settles O12: every field named is an initial value of its block. -/
theorem resetIsAnEntryToStart : Obligations.ResetIsAnEntryToStart :=
  ⟨State.reset_invariants, by decide⟩

end Sys2Proof.Machine
end

section
/-! SUPPORT, SETTLES O16. The status byte, and what a fetch shifts out and consumes. -/

namespace Sys2Proof.Machine

/-! ### The status byte (Table 86) -/

/-- The fields of the status byte, from the most significant bit down. -/
theorem HostPort.status_fields (p : HostPort) : p.status.extractLsb' 6 2 = p.state.code ∧
    p.status.getLsbD 5 = p.overrun ∧ p.status.getLsbD 4 = (!p.notices.isEmpty) ∧ p.status.extractLsb' 0 4 = 0#4 := by
  unfold HostPort.status
  generalize p.notices.isEmpty = empty
  cases p.state <;> cases p.overrun <;> cases empty <;> decide

theorem PortState.code_eq_ready (st : PortState) : (st.code == PortState.ready.code) = (st == .ready) := by
  cases st <;> decide

/-! ### A fetch that begins with SEL fall (R168, R170) -/

section Fetch
variable {p : HostPort}

/-- R170: a fetch shows a response exactly when the port was READY at SEL fall. -/
theorem HostPort.selFall_showsResponse (p : HostPort) :
    (p.selFall.shownStatus.extractLsb' 6 2 == PortState.ready.code) = (p.state == .ready) := by
  obtain ⟨hstate, -⟩ := p.status_fields
  rw [show p.selFall.shownStatus = p.status from rfl, hstate, PortState.code_eq_ready]

theorem Response.bytes_length (r : Response) : r.bytes.length = r.data.length + 2 := by
  simp [Response.bytes]

theorem HostPort.fetchTail_ready {r : Response} (hp : p.state = .ready) (hr : p.response = some r) (n : Nat) :
    p.selFall.fetchTail n = r.bytes.take n ++ List.replicate (n - (r.data.length + 2)) 0xFF#8 := by
  have hresponse : p.selFall.response = some r := hr
  simp [HostPort.fetchTail, p.selFall_showsResponse, hp, hresponse, Response.bytes_length]

theorem HostPort.fetchTail_other (hp : p.state ≠ .ready) (n : Nat) :
    p.selFall.fetchTail n = List.replicate n 0xFF#8 := by
  simp [HostPort.fetchTail, p.selFall_showsResponse, hp]

theorem HostPort.consumes_ready {r : Response} (hp : p.state = .ready) (hr : p.response = some r) (n : Nat) :
    p.selFall.consumes n = true ↔ r.data.length + 2 ≤ n := by
  have hresponse : p.selFall.response = some r := hr
  simp [HostPort.consumes, p.selFall_showsResponse, hp, hresponse, Response.bytes_length]

theorem HostPort.consumes_other (hp : p.state ≠ .ready) (n : Nat) : p.selFall.consumes n = false := by
  simp [HostPort.consumes, p.selFall_showsResponse, hp]

/-- The port after a fetch, its response consumed or not. -/
def HostPort.fetched (p : HostPort) (n : Nat) : HostPort :=
  let shown := { p with
    sel := false
    statusByte := p.shownStatus
    shiftedOut := p.shownStatus :: p.fetchTail n
    overrun := if p.state = .notReady then p.overrun else false }
  if p.consumes n then { shown with state := .idle, response := none } else shown

theorem exec_transactionBegin (s : State) : exec (.transactionBegin false) s = .next (s.setPort s.port.selFall) := rfl

theorem exec_fetch (s : State) (n : Nat) : exec (.fetch n) s = .next (s.setPort (s.port.fetched n)) := rfl

/-- R170: a fetch leaves the notices, releases SEL, and shifts out the status byte first. -/
theorem HostPort.fetched_kept (p : HostPort) (n : Nat) : (p.fetched n).sel = false ∧
    (p.fetched n).notices = p.notices ∧ (p.fetched n).attn = p.attn ∧
    (p.fetched n).shiftedOut = p.shownStatus :: p.fetchTail n ∧
    (p.fetched n).overrun = if p.state = .notReady then p.overrun else false := by
  simp only [HostPort.fetched]
  split_ifs <;> exact ⟨rfl, rfl, rfl, rfl, rfl⟩

theorem HostPort.fetched_consumed {n : Nat} (h : p.consumes n = true) :
    (p.fetched n).state = .idle ∧ (p.fetched n).response = none := by
  simp [HostPort.fetched, h]

theorem HostPort.fetched_unconsumed {n : Nat} (h : p.consumes n = false) :
    (p.fetched n).state = p.state ∧ (p.fetched n).response = p.response := by
  simp [HostPort.fetched, h]

end Fetch

theorem State.setPort_keeps (s : State) (p : HostPort) : s.keepsAllBut (s.setPort p) [.port] = true := by
  simp [State.keepsAllBut, Block.all, Block.agrees]

/-- Settles O16: the status byte is loaded at SEL fall, and a fetch goes by the port state it shows. -/
theorem transactionsShiftOutStatusAndResponse : Obligations.TransactionsShiftOutStatusAndResponse := by
  refine ⟨fun s => ?_, fun s => ?_, fun s n => ?_⟩
  · obtain ⟨hstate, hoverrun, hnotices, hlow⟩ := s.port.status_fields
    refine ⟨_, rfl, rfl, hstate.trans ?_, hoverrun, hnotices, hlow, rfl, rfl, rfl, rfl, rfl, rfl, s.setPort_keeps _⟩
    cases s.port.state <;> rfl
  · exact ⟨_, rfl, rfl, rfl, fun hsel => if_pos hsel, s.setPort_keeps _⟩
  · obtain ⟨hsel, hnotices, hattn, hshifted, hoverrun⟩ := s.port.selFall.fetched_kept n
    refine ⟨_, _, exec_transactionBegin s, exec_fetch _ n, hsel, if_neg (by simp [hsel]), hnotices, hattn,
      s.setPort_keeps _, fun r hready hr => ?_, fun hother => ?_⟩
    · refine ⟨hshifted.trans (congrArg _ (HostPort.fetchTail_ready hready hr n)),
        hoverrun.trans (if_neg (by simp [HostPort.selFall, hready])), ?_⟩
      have hconsumes := HostPort.consumes_ready hready hr n
      split_ifs with hlong
      · exact HostPort.fetched_consumed (hconsumes.2 hlong)
      · obtain ⟨hstate, hresponse⟩ := HostPort.fetched_unconsumed (Bool.eq_false_iff.2 (mt hconsumes.1 hlong))
        exact ⟨hstate.trans hready, hresponse.trans hr⟩
    · obtain ⟨hstate, hresponse⟩ := HostPort.fetched_unconsumed (HostPort.consumes_other hother n)
      refine ⟨hshifted.trans (congrArg _ (HostPort.fetchTail_other hother n)), hstate, hresponse, hoverrun.trans ?_⟩
      by_cases hn : s.port.state = .notReady <;> simp [HostPort.selFall, hn]

end Sys2Proof.Machine
end

section
/-! SUPPORT, SETTLES O24. QUIESCE at Station Control, by the link state. -/

namespace Sys2Proof.Machine

section Owner
variable {s : State}

theorem State.ownerQuiesce_quiesced (h : s.control.link = .quiesced) : s.ownerQuiesce = s.answer .ok [] := by
  simp [State.ownerQuiesce, h]

/-- R161: with no part in a frame a quiesce completes at once. -/
theorem State.ownerQuiesce_completes (h : s.control.link = .faulted ∨ (s.onBus = true ∧ s.hasPart = false)) :
    s.ownerQuiesce = s.completeQuiesce := by
  obtain hfaulted | ⟨hbus, hpart⟩ := h
  · simp [State.ownerQuiesce, hfaulted]
  · obtain hl | hl := s.onBus_iff.1 hbus <;> simp [State.ownerQuiesce, hl, hpart]

/-- R161: with a part in a frame a quiesce waits for its end. -/
theorem State.ownerQuiesce_waits (hpart : s.hasPart = true) : s.ownerQuiesce =
    (s.setControl { s.control with quiesceWaiting := true }).setReports { s.reports with partEnded := false } := by
  have hbus : s.onBus = true := by
    simp only [State.hasPart, Bool.and_eq_true] at hpart
    exact hpart.1.1
  obtain hl | hl := s.onBus_iff.1 hbus <;> simp [State.ownerQuiesce, hl, hpart]

end Owner

/-- A request taken has changed the port alone. -/
@[simp] theorem State.taken_tests (s : State) (code : Byte) (args : List Byte) :
    (s.taken code args).onBus = s.onBus ∧ (s.taken code args).hasPart = s.hasPart :=
  ⟨rfl, rfl⟩

/-- R160, R135, R161: the Station Control, the line and the Sync Unit of a quiesce completed. -/
theorem State.completeQuiesce_blocks (s : State) :
    s.completeQuiesce.control = { s.control with link := .quiesced, reason := .hostRequest, quiesceWaiting := false } ∧
      s.completeQuiesce.sendQ = [] ∧ s.completeQuiesce.sync = s.dropFrame.sync.clear ∧
      s.completeQuiesce.line = { s.line.release with right := false } := by
  obtain ⟨hq, hsync⟩ := s.toQuiesced_cleared .hostRequest
  simp [State.completeQuiesce, s.toQuiesced_control, s.toQuiesced_line, hq, hsync]

/-- R159, R169: a quiesce completed for a request in hand is answered OK behind its LINK notice. -/
theorem State.completeQuiesce_port {s : State} (hworking : s.port.state = .working) :
    s.completeQuiesce.port = { s.port.setNotices (postInto s.port.notices (.link .hostRequest)) with
      state := .ready, response := some ⟨.ok, []⟩ } := by
  have hport := s.toQuiesced_port .hostRequest
  rw [State.completeQuiesce, State.answer_working _ _ _ (by simpa [hport] using hworking)]
  simp [hport]

theorem State.dropFrame_roster (s : State) : s.dropFrame.sync.roster = s.sync.roster :=
  (congrArg SyncUnit.roster s.dropFrame_item.2).trans s.cutFrame_run.2

/-- Settles O24: with a part in a frame the request waits, QUIESCED answers it, and the bus and FAULTED move to QUIESCED. -/
theorem quiesceByLinkState : Obligations.QuiesceByLinkState := by
  intro s hs
  have howner (hl : s.control.link ≠ .frozen) : s.request 0x08#8 [] true true State.ownerQuiesce =
      (s.taken 0x08#8 []).ownerQuiesce := s.request_owner 0x08#8 [] true _ hs hl
  generalize ht : s.request 0x08#8 [] true true State.ownerQuiesce = t at howner
  refine ⟨t, congrArg Host.Outcome.next ht, fun hlink => ?_, fun hfree => ?_, fun hbus hrole hrx => ?_⟩
  · rw [howner (by simp [hlink]), State.ownerQuiesce_quiesced (by simpa using hlink)]
    exact s.taken_answer _ _ _ _
  · have hcompletes : s.control.link = .faulted ∨ (s.onBus = true ∧ s.hasPart = false) :=
      hfree.imp_right fun ⟨hbus, hout⟩ => ⟨hbus, by simpa [State.hasPart, hbus, or_iff_not_imp_left] using hout⟩
    rw [howner (hfree.elim (fun hl => by simp [hl]) fun h => (PortAgrees.not_frozen_of_onBus h.1).2),
      State.ownerQuiesce_completes (by simpa using hcompletes)]
    have hkeeps : s.keepsAllBut (s.taken 0x08#8 []).completeQuiesce
        [.control, .line, .fe, .sendQ, .sync, .port, .reports] = true := by
      simp [State.keepsAllBut, Block.all, Block.agrees]
    have hport := State.completeQuiesce_port (s := s.taken 0x08#8 []) (by simp)
    obtain ⟨hcontrol, hq, hsync, hline⟩ := (s.taken 0x08#8 []).completeQuiesce_blocks
    rw [hcontrol, hq, hsync, hline]
    refine ⟨by simp, rfl, rfl, rfl, rfl, rfl, rfl, rfl, rfl, rfl, rfl, rfl, ?_, rfl, rfl, rfl, by simp, ?_, ?_, hkeeps⟩
    · simp [SyncUnit.clear, SyncUnit.stopTimers, PeerEntry.stopTimer, State.dropFrame_roster]
    · rw [hport]
      rfl
    · rw [State.answeredWith, hport]
      simp
  · have hpart : s.hasPart = true := by simp [State.hasPart, hbus, hrole, hrx]
    rw [howner (PortAgrees.not_frozen_of_onBus hbus).2, State.ownerQuiesce_waits (by simpa using hpart)]
    refine ⟨by simp, by simp, by simp, by simp [State.keepsAllBut, Block.all, Block.agrees]⟩

end Sys2Proof.Machine
end

section
/-! SUPPORT. The commands that leave Station Control, the Send Queue and the Sync Unit: the requests of the host but WRITE and
those that Station Control carries out, and what the write engine does, but that the end of a start's incarnation write leaves
START. -/

namespace Sys2Proof.Machine

/-- From `s` to `t` Station Control, the Send Queue and the Sync Unit are as they were. -/
structure Aside (s t : State) : Prop where
  control : t.control = s.control
  sendQ : t.sendQ = s.sendQ
  sync : t.sync = s.sync

/-- From `s` to `t` the three blocks are as they were, but that the station may have left START at the end. -/
def AsideOrStarted (s t : State) : Prop :=
  Aside s t ∨ ∃ u, Aside s u ∧ t = u.leaveStart

/-- The requests but WRITE and those that Station Control carries out, a fetch, and the starts of the write engine's
operations. -/
def asideCommand : Instr → Bool
  | .read _ | .nextTag _ | .watch _ | .status _ | .peers _ | .notice _ | .configRead _ | .configWrite _ | .wipe _
  | .notACommandCode _ _ | .fetch _ | .commitStart | .configWriteStart | .wipeStart => true
  | _ => false

namespace Aside

variable {s t u : State}

theorem refl (s : State) : Aside s s :=
  ⟨rfl, rfl, rfl⟩

theorem trans (h : Aside s t) (h' : Aside t u) : Aside s u :=
  ⟨h'.control.trans h.control, h'.sendQ.trans h.sendQ, h'.sync.trans h.sync⟩

theorem answer (s : State) (c : ResultCode) (d : List Byte) : Aside s (s.answer c d) :=
  ⟨by simp, by simp, by simp⟩

/-- A request to an owner that leaves the three blocks. -/
theorem request (s : State) (code : Byte) (args : List Byte) (sized gated : Bool) {owner : State → State}
    (howner : ∀ t, Aside t (owner t)) : Aside s (s.request code args sized gated owner) := by
  have htaken : Aside s (s.taken code args) := ⟨by simp, by simp, by simp⟩
  obtain ⟨p, hp, -⟩ | ⟨-, ⟨c, hc⟩ | ⟨-, ho⟩⟩ := s.request_cases code args sized gated owner
  · rw [hp]
    exact ⟨rfl, rfl, rfl⟩
  · rw [hc]
    exact htaken.trans (.answer _ _ _)
  · rw [ho]
    exact htaken.trans (howner _)

theorem freeEngine (h : Aside s t) : Aside s t.freeEngine :=
  h.trans ⟨by simp, by simp, by simp⟩

theorem commitStart (s : State) : Meets (execCommitStart s) (Aside s) := by
  refine .next ?_
  split_ifs
  · split
    · exact .refl s
    · split
      · exact ⟨by simp, by simp, by simp⟩
      · exact ⟨by simp, by simp, by simp⟩
      · exact .refl s
  · exact .refl s

/-- These commands leave the three blocks, whatever they answer or begin. -/
theorem exec_aside (c : Instr) (hc : asideCommand c = true) (s : State) : Meets (exec c s) (Aside s) := by
  cases c
  case read args => exact .next (request s _ _ _ _ fun t => ⟨by simp, by simp, by simp⟩)
  case nextTag args => exact .next (request s _ _ _ _ fun t => ⟨by simp, by simp, by simp⟩)
  case watch args => exact .next (request s _ _ _ _ fun t => ⟨by simp, by simp, by simp⟩)
  case status args => exact .next (request s _ _ _ _ fun t => .answer t _ _)
  case peers args => exact .next (request s _ _ _ _ fun t => .answer t _ _)
  case notice args => exact .next (request s _ _ _ _ fun t => ⟨by simp, by simp, by simp⟩)
  case configRead args => exact .next (request s _ _ _ _ fun t => .answer t _ _)
  case configWrite args => exact .next (request s _ _ _ _ fun t => ⟨by simp, by simp, by simp⟩)
  case wipe args => exact .next (request s _ _ _ _ fun t => ⟨by simp, by simp, by simp⟩)
  case notACommandCode code args =>
    refine .next ?_
    split_ifs
    · exact .refl s
    · exact request s _ _ _ _ .refl
  case fetch clocked => exact .next ⟨rfl, rfl, rfl⟩
  case commitStart => exact commitStart s
  case configWriteStart =>
    refine .next ?_
    split
    · split_ifs
      · exact ⟨rfl, rfl, rfl⟩
      · exact .refl s
    · exact .refl s
  case wipeStart =>
    refine .next ?_
    split
    · split_ifs
      · exact ⟨by simp, by simp, by simp⟩
      · exact .refl s
    · exact .refl s
  all_goals cases hc

end Aside

namespace AsideOrStarted

variable {s t : State}

theorem of_aside {s t u : State} (h : Aside s t) (h' : AsideOrStarted t u) : AsideOrStarted s u := by
  obtain h' | ⟨v, hv, hu⟩ := h'
  · exact .inl (h.trans h')
  · exact .inr ⟨v, h.trans hv, hu⟩

theorem nextWipe (s : State) (pair : Nat) (allFreed : Bool) : Aside s (s.nextWipe pair allFreed) :=
  ⟨by simp, by simp, by simp⟩

theorem opSucceeds (s : State) (op : StoreOp) : AsideOrStarted s (s.opSucceeds op) := by
  have hwritten : Aside s (s.setArray (s.store.array.written op)) := ⟨rfl, rfl, rfl⟩
  simp only [State.opSucceeds]
  split
  · split_ifs
    · exact .inl ⟨rfl, rfl, rfl⟩
    · exact .inl ⟨by simp, by simp, by simp⟩
  · split_ifs
    · exact .inl hwritten.freeEngine
    · exact .inl (hwritten.freeEngine.trans (.answer _ _ _))
  · exact .inl ⟨by simp, by simp, by simp⟩
  · split_ifs
    · exact .inl hwritten.freeEngine
    · exact .inr ⟨_, hwritten.freeEngine, rfl⟩

theorem opFails (s : State) (op : StoreOp) : AsideOrStarted s (s.opFails op) := by
  have hfree : Aside s s.freeEngine := (Aside.refl s).freeEngine
  unfold State.opFails State.opFailsFinally
  split
  · exact .inl ⟨rfl, rfl, rfl⟩
  · split
    · split_ifs
      · exact .inl hfree
      · exact .inl ⟨by simp, by simp, by simp⟩
    · split_ifs
      · exact .inl hfree
      · exact .inl (hfree.trans (.answer _ _ _))
    · exact .inl ⟨by simp, by simp, by simp⟩
    · split_ifs
      · exact .inl hfree
      · exact .inr ⟨_, hfree.trans ⟨by simp, by simp, by simp⟩, rfl⟩

theorem writeDone (current good : Bool) (s : State) : Meets (execWriteDone current good s) (AsideOrStarted s) := by
  refine .next ?_
  split
  · exact .inl (.refl s)
  · split_ifs
    · exact .inl (.refl s)
    · exact opSucceeds s _
    · refine of_aside (t := (s.setArray _).useFree 2) ?_ (opFails _ _)
      exact ⟨rfl, rfl, rfl⟩

theorem writeLimit (s : State) : Meets (execWriteLimit s) (AsideOrStarted s) := by
  refine .next ?_
  split
  · exact .inl (.refl s)
  · split_ifs
    · exact .inl (.refl s)
    · refine of_aside (t := (s.setArray _).useFree 2) ?_ (opFails _ _)
      exact ⟨rfl, rfl, rfl⟩

end AsideOrStarted

end Sys2Proof.Machine
end

section
/-! SUPPORT, SETTLES O11. The configuration in force, which every operation but the configuration read of a start leaves. -/

namespace Sys2Proof.Machine

/-! ### Moves of the link state -/

@[simp] theorem State.move_config (s : State) (link : LinkState) (reason : Reason) :
    (s.move link reason).control.config = s.control.config := by
  simp [State.move]

@[simp] theorem State.completeQuiesce_config (s : State) : s.completeQuiesce.control.config = s.control.config := by
  simp [State.completeQuiesce, s.toQuiesced_control]

@[simp] theorem State.startKeepingOp_config (s : State) (cause : StartCause) :
    (s.startKeepingOp cause).control.config = s.control.config := by
  simp [(s.startKeepingOp_enters cause).1.control]

@[simp] theorem State.startCuttingOp_config (s : State) : s.startCuttingOp.control.config = s.control.config := by
  simp [s.startCuttingOp_enters.1.control]

@[simp] theorem State.leaveStart_config (s : State) : s.leaveStart.control.config = s.control.config := by
  unfold State.leaveStart
  dsimp only
  split_ifs <;> simp

@[simp] theorem State.toFrozen_config (s : State) : s.toFrozen.control.config = s.control.config := by
  rw [State.toFrozen_eq, State.freeze_control]
  split_ifs
  · exact s.completeQuiesce_config
  · rfl

@[simp] theorem State.leaveFrozen_config (s : State) : s.leaveFrozen.control.config = s.control.config := by
  simp only [State.leaveFrozen]
  split <;> simp

/-! ### Commands -/

/-- The configuration in force is as it was. -/
def KeepsConfig (s t : State) : Prop :=
  t.control.config = s.control.config

namespace KeepsConfig

variable {s t : State}

theorem of_control (h : t.control = s.control) : KeepsConfig s t :=
  congrArg Control.config h

theorem request (s : State) (code : Byte) (args : List Byte) (sized gated : Bool) {owner : State → State}
    (howner : ∀ t, KeepsConfig t (owner t)) : KeepsConfig s (s.request code args sized gated owner) := by
  obtain ⟨p, hp, -⟩ | ⟨-, ⟨c, hc⟩ | ⟨-, ho⟩⟩ := s.request_cases code args sized gated owner
  · rw [hp]
    rfl
  · rw [hc]
    exact of_control (by simp)
  · rw [ho]
    exact (howner _).trans (of_control (by simp))

theorem ownerQuiesce (s : State) : KeepsConfig s s.ownerQuiesce := by
  unfold State.ownerQuiesce KeepsConfig
  split
  · simp
  · simp
  · split_ifs <;> simp

theorem ownerResume (s : State) : KeepsConfig s s.ownerResume := by
  unfold State.ownerResume KeepsConfig
  split_ifs <;> simp

theorem asideOrStarted (h : AsideOrStarted s t) : KeepsConfig s t := by
  obtain h | ⟨u, hu, rfl⟩ := h
  · exact of_control h.control
  · exact u.leaveStart_config.trans (of_control hu.control)

theorem publishFrame (s : State) : Meets (execPublishFrame s) (KeepsConfig s) := by
  refine .next (of_control ?_)
  (repeat' split) <;> simp

theorem lateLossConfirmed (s : State) : Meets (execLateLossConfirmed s) (KeepsConfig s) := by
  refine .next (of_control ?_)
  (repeat' split) <;> simp

theorem duplicateId (s : State) : Meets (execDuplicateId s) (KeepsConfig s) := by
  refine .next ?_
  split_ifs
  · simp [KeepsConfig, State.endWaiting_control, State.toQuiesced_control]
  · rfl

theorem supplyLow (s : State) (lasting : Bool) : Meets (execSupplyLow s lasting) (KeepsConfig s) := by
  have hlow (t : State) : KeepsConfig t t.takeSupplyLow := by
    unfold State.takeSupplyLow
    split
    · exact t.toFrozen_config
    · exact t.startCuttingOp_config
  refine .next ?_
  split_ifs
  · unfold State.pfailEdge
    split_ifs <;> rfl
  · rfl
  · split
    · rfl
    · rfl
    all_goals exact hlow _

theorem supplyGood (s : State) (lasting : Bool) : Meets (execSupplyGood s lasting) (KeepsConfig s) := by
  refine .next ?_
  split_ifs
  · unfold State.pfailEdge
    split_ifs <;> rfl
  · rfl
  · exact State.leaveFrozen_config _
  · rfl

end KeepsConfig

/-- R156: every command but START_SEQUENCE leaves the configuration in force. -/
theorem exec_keepsConfig (c : Instr) (hc : c ≠ .startSequence) (s : State) : Meets (exec c s) (KeepsConfig s) := by
  by_cases hcalm : (quietCommand c || asideCommand c) = true
  · obtain hquiet | haside := Bool.or_eq_true_iff.1 hcalm
    · exact (exec_quiet c hquiet s).mono fun t h => .of_control h.control
    · exact (Aside.exec_aside c haside s).mono fun t h => .of_control h.control
  cases c
  case write args => exact .next (.request s _ _ _ _ fun t => .of_control (by simp))
  case quiesce args => exact .next (.request s _ _ _ _ .ownerQuiesce)
  case resume args => exact .next (.request s _ _ _ _ .ownerResume)
  case restart args => exact .next (.request s _ _ _ _ fun t => t.startKeepingOp_config _)
  case publishFrame => exact KeepsConfig.publishFrame s
  case lateLossConfirmed => exact KeepsConfig.lateLossConfirmed s
  case duplicateId => exact KeepsConfig.duplicateId s
  case busStuck =>
    refine .next ?_
    split_ifs
    · simp [KeepsConfig, State.toFaulted_control]
    · rfl
  case busRecovered =>
    refine .next ?_
    split_ifs
    · simp [KeepsConfig]
    · rfl
  case joinComplete =>
    refine .next ?_
    split_ifs <;> rfl
  case quiesceComplete =>
    refine .next ?_
    split_ifs
    · exact s.completeQuiesce_config
    · rfl
  case powerUp pfail => exact .next (State.startCuttingOp_config _)
  case resetAssert lasting =>
    refine .next ?_
    split
    · refine (State.startKeepingOp_config _ _).trans ?_
      split_ifs <;> rfl
    · split_ifs <;> rfl
  case startSequence => exact absurd rfl hc
  case supplyLow lasting => exact KeepsConfig.supplyLow s lasting
  case supplyGood lasting => exact KeepsConfig.supplyGood s lasting
  case writeDone current good => exact (AsideOrStarted.writeDone current good s).mono fun t => .asideOrStarted
  case writeLimit => exact (AsideOrStarted.writeLimit s).mono fun t => .asideOrStarted
  all_goals exact absurd rfl hcalm

/-- Settles O11: the configuration read of a start takes what the array holds, and no other command touches it. -/
theorem configurationChangesAtAStartOnly : Obligations.ConfigurationChangesAtAStartOnly := by
  refine ⟨fun c s t hexec hc => (exec_keepsConfig c hc s).of_eq hexec, fun s t hlink hwait hexec => ?_⟩
  have hrun : exec .startSequence s = .next s.runStart := congrArg Host.Outcome.next (if_pos (by simp [hlink, hwait]))
  obtain rfl : s.runStart = t := by simpa using hrun.symm.trans hexec
  simp [State.runStart]

end Sys2Proof.Machine
end

section
/-! SUPPORT, SETTLES O8. Off the bus a station with an empty Send Queue, an empty Wanted Set and no digest run stays so, and every
entry into START or QUIESCED empties them. -/

namespace Sys2Proof.Machine

/-- R103, R104, R118: nothing to send, nothing wanted, and no digest run. -/
structure State.Drained (s : State) : Prop where
  sendQ : s.sendQ = []
  wanted : s.sync.wanted = []
  runActive : s.sync.runActive = false

/-- The invariant of START, of QUIESCED, and of FROZEN entered from QUIESCED. -/
def DrainedAway (s : State) : Prop :=
  s.control.away = true → s.Drained

theorem State.quiescedInv_iff (s : State) : s.quiescedInv = true ↔ DrainedAway s := by
  unfold State.quiescedInv DrainedAway
  cases s.control.away with
  | false => simp
  | true =>
    simp only [Bool.not_true, Bool.false_or, Bool.and_eq_true, List.isEmpty_iff, Bool.not_eq_true', true_imp_iff]
    exact ⟨fun ⟨⟨hq, hwanted⟩, hrun⟩ => ⟨hq, hwanted, hrun⟩, fun ⟨hq, hwanted, hrun⟩ => ⟨⟨hq, hwanted⟩, hrun⟩⟩

theorem Control.away_iff (c : Control) : c.away = true ↔
    c.link = .start ∨ c.link = .quiesced ∨ (c.link = .frozen ∧ c.returnState = .quiesced) := by
  simp [Control.away, or_assoc]

theorem State.not_onBus_of_away {s : State} (h : s.control.away = true) : s.onBus = false := by
  obtain hl | hl | ⟨hl, -⟩ := s.control.away_iff.1 h <;> simp [State.onBus, hl, LinkState.onBus]

namespace State.Drained

variable {s t : State}

theorem congr (h : s.Drained) (hq : t.sendQ = s.sendQ) (hsync : t.sync = s.sync) : t.Drained :=
  ⟨hq.trans h.sendQ, hsync ▸ h.wanted, hsync ▸ h.runActive⟩

theorem setFe (h : s.Drained) (x : FrameEngine) : (s.setFe x).Drained :=
  h.congr rfl rfl

theorem setLine (h : s.Drained) (x : LineIf) : (s.setLine x).Drained :=
  h.congr rfl rfl

theorem setReports (h : s.Drained) (x : Reports) : (s.setReports x).Drained :=
  h.congr rfl rfl

/-! ### The Frame Engine without an item (R86, R87, R98) -/

theorem returnItem_eq (h : s.Drained) : s.returnItem = s := by
  simp [State.returnItem, h.sendQ]

theorem countAttempt_eq (h : s.Drained) : s.countAttempt = s := by
  simp [State.countAttempt, h.sendQ]

theorem complete_eq (h : s.Drained) (o : Outcome) : s.complete o = s := by
  simp [State.complete, h.sendQ]

theorem rest (h : s.Drained) : s.rest.Drained :=
  h.setFe _

theorem leaveFrame (h : s.Drained) : s.leaveFrame.Drained :=
  h.congr (by simp) (by simp)

theorem returnItem (h : s.Drained) : s.returnItem.Drained := by
  rwa [h.returnItem_eq]

theorem fixOutcome (h : s.Drained) : s.fixOutcome.Drained := by
  unfold State.fixOutcome
  refine setFe ?_ _
  split
  · rwa [h.countAttempt_eq]
  · rwa [h.complete_eq]

theorem applyLateLoss (h : s.Drained) : s.applyLateLoss.Drained := by
  rw [State.applyLateLoss, h.sendQ]
  exact h.rest

theorem lossNotConfirmed (h : s.Drained) : s.lossNotConfirmed.Drained := by
  rw [State.lossNotConfirmed, h.countAttempt_eq]
  exact h.rest.setFe _

theorem endLateLoss (h : s.Drained) : s.endLateLoss.Drained := by
  unfold State.endLateLoss
  split_ifs
  · exact h.applyLateLoss
  · exact (h.setReports _).returnItem.rest
  · exact h.lossNotConfirmed

theorem abandonFrame (h : s.Drained) : s.abandonFrame.Drained := by
  rw [State.abandonFrame, h.countAttempt_eq]
  refine leaveFrame ?_
  split_ifs
  · exact h.lossNotConfirmed
  · exact h.rest
  · exact h.rest
  · exact h

theorem cutFrame (h : s.Drained) : s.cutFrame.Drained := by
  rw [State.cutFrame, h.returnItem_eq, ite_self]
  exact h.leaveFrame

theorem advanceTx (h : s.Drained) (placed : Option Bool) (bit : Bool) : (s.advanceTx placed bit).Drained := by
  have hreceiver : s.becomeReceiver.Drained := (h.setLine _).setFe _
  simp only [State.advanceTx]
  split
  · split_ifs
    · exact hreceiver.returnItem.rest
    · exact h.setFe _
    · exact h
  · split_ifs
    · exact (hreceiver.setFe _).lossNotConfirmed
    · exact hreceiver.setFe _
    · exact h.setFe _
    · exact h
  · split_ifs
    · exact h.fixOutcome
    · exact h
  · split_ifs
    · exact h.lossNotConfirmed
    · exact h
  · exact h
  · exact h

theorem rise (h : s.Drained) (level : Bool) : (s.rise level).Drained := by
  have hclock (u : State) (hu : u.Drained) : u.clockRise.Drained := hu.congr (by simp) (by simp)
  unfold State.rise
  split_ifs
  · exact h.setLine _
  · exact h
  · exact hclock _ (((h.setLine _).setFe _).advanceTx _ _)
  · exact h.setLine _

/-! ### The Line Interface -/

theorem openFrame (h : s.Drained) : s.openFrame.Drained :=
  (h.setLine _).setFe _

theorem partAtEnd (h : s.Drained) : s.partAtEnd.Drained := by
  unfold State.partAtEnd State.endForeign
  split
  · exact h.endLateLoss
  · split_ifs
    · exact h.rest
    · exact h.returnItem.rest
  · exact h.returnItem.rest
  · exact h.returnItem.rest
  · exact h
  · exact h

theorem openingMark (h : s.Drained) : Meets (execOpeningMark s) State.Drained := by
  refine .next ?_
  split_ifs
  · exact h.setLine _
  · exact h.setLine _
  · exact h.openFrame
  · exact h.setLine _

theorem endMark (h : s.Drained) : Meets (execEndMark s) State.Drained := by
  rw [execEndMark_eq]
  refine .next ?_
  split_ifs
  · exact h.setLine _
  · exact h.setLine _
  · exact (h.setLine _).partAtEnd.leaveFrame
  · exact h.setLine _

theorem holdLimit (h : s.Drained) : Meets (execHoldLimit s) State.Drained := by
  refine .next ?_
  split_ifs
  · exact (h.setLine _).abandonFrame
  · exact h

theorem frameBroken (h : s.Drained) : Meets (execFrameBroken s) State.Drained := by
  refine .next ?_
  dsimp only
  split_ifs
  · exact (h.setLine _).endLateLoss.leaveFrame
  · exact (h.setLine _).leaveFrame
  · exact h

theorem stuckLimit (h : s.Drained) (line : Line) : Meets (execStuckLimit line s) State.Drained := by
  refine .next ?_
  dsimp only
  split_ifs
  · exact (h.setLine _).abandonFrame.setReports _
  · exact (h.setLine _).setReports _
  · exact h

theorem bckFall (h : s.Drained) : Meets (execBckFall s) State.Drained := by
  have hopened : s.takeOwnOpening.Drained := by
    unfold State.takeOwnOpening
    split_ifs
    · exact h.openFrame
    · exact h
  have hfall (u : State) (hu : u.Drained) : u.fallInFrame.Drained := hu.congr (by simp) (by simp)
  refine .next ?_
  dsimp only
  split_ifs
  · exact h.setLine _
  · exact h.setLine _
  · exact hfall _ (hopened.setLine _)
  · exact (hopened.setLine _).setLine _
  · exact hopened.setLine _

/-! ### Every quiet command -/

/-- What asks for JOINING or ACTIVE changes nothing off the bus. -/
theorem unless_onBus (h : s.Drained) {p : Bool} {u : State} (hp : p = true → s.onBus = true) (hoff : s.onBus = false) :
    (if p = true then u else s).Drained := by
  rw [if_neg fun hc => by simp [hp hc] at hoff]
  exact h

/-- A quiet command of a drained station off the bus gives it nothing to send or to want: the claims, the frames decided on and
the Sync Unit's timers are of JOINING and ACTIVE. -/
theorem exec_quiet (h : s.Drained) (hoff : s.onBus = false) (c : Instr) (hc : quietCommand c = true) :
    Meets (exec c s) State.Drained := by
  have hdecision {kind : FrameKind} {p : Bool} (hd : (s.atDecision kind && p) = true) : s.onBus = true :=
    State.Apart.atDecision_onBus (Bool.and_eq_true _ _ ▸ hd).1
  have hjoining {p : Bool} (hj : (s.control.link == .joining && p) = true) : s.onBus = true :=
    s.onBus_iff.2 (.inl (eq_of_beq (Bool.and_eq_true _ _ ▸ hj).1))
  have hline (b : Bool) (l : LineIf) : (if b then s.setLine l else s).Drained := by
    cases b
    · exact h
    · exact h.setLine l
  have hrise (p : Prop) [Decidable p] (level : Bool) : (if p then s.rise level else s).Drained := by
    split_ifs
    · exact h.rise level
    · exact h
  cases c
  case transactionBegin empty => exact .next (h.congr rfl rfl)
  case quietGap => exact .next (hline _ _)
  case idleLost line => exact .next (hline _ _)
  case rightToOpen => exact .next (h.unless_onBus (by simp +contextual) hoff)
  case openingMark => exact h.openingMark
  case arbitrationLoss => exact .next (hrise _ _)
  case lateLoss => exact .next (hrise _ _)
  case beaconFrame => exact .next (h.unless_onBus hdecision hoff)
  case digestFrame => exact .next (h.unless_onBus hdecision hoff)
  case pullFrame => exact .next (h.unless_onBus hdecision hoff)
  case voteOutcome level => exact .next (hrise _ _)
  case endMark => exact h.endMark
  case holdLimit => exact h.holdLimit
  case frameBroken => exact h.frameBroken
  case stuckLimit line => exact h.stuckLimit line
  case recovery =>
    refine .next ?_
    split_ifs
    · exact (h.setLine _).setReports _
    · exact h
  case resetRelease => exact .next (h.congr rfl rfl)
  case beaconTimer => exact .next (h.unless_onBus (by simp +contextual) hoff)
  case silenceTimeout station =>
    refine .next ?_
    split
    · exact h.unless_onBus (by simp +contextual) hoff
    · exact h
  case listenWindowEnd => exact .next (h.unless_onBus hjoining hoff)
  case settleElapsed => exact .next (h.unless_onBus hjoining hoff)
  case nextAskDue tag => exact .next (h.unless_onBus (by simp +contextual) hoff)
  case pullUnanswered tag =>
    refine .next ?_
    split
    · exact h.unless_onBus (by simp +contextual) hoff
    · exact h
  case bitTaken level => exact .next (h.rise level)
  case bckFall => exact h.bckFall
  case clockHalfEnd => exact .next (hline _ _)
  all_goals cases hc

end State.Drained

namespace DrainedAway

variable {s t : State}

theorem of_drained (h : t.Drained) : DrainedAway t :=
  fun _ => h

theorem of_not_away (h : t.control.away = false) : DrainedAway t :=
  fun haway => by simp [h] at haway

theorem of_onBus (h : t.onBus = true) : DrainedAway t :=
  fun haway => by simp [State.not_onBus_of_away haway] at h

theorem congr (h : DrainedAway s) (haway : t.control.away = s.control.away) (hq : t.sendQ = s.sendQ)
    (hsync : t.sync = s.sync) : DrainedAway t :=
  fun ht => (h (haway ▸ ht)).congr hq hsync

theorem of_aside (h : DrainedAway s) (ha : Aside s t) : DrainedAway t :=
  h.congr (by rw [ha.control]) ha.sendQ ha.sync

/-! ### Moves of the link state -/

theorem enterJoining (hl : s.control.link = .joining) : DrainedAway s.enterJoining :=
  of_onBus ((State.onBus_congr (by simp)).trans (s.onBus_iff.2 (.inl hl)))

/-- R102, R135: the move to QUIESCED clears the queue and the reconciliation state. -/
theorem toQuiesced_drained (s : State) (reason : Reason) : (s.toQuiesced reason).Drained := by
  obtain ⟨hq, hsync⟩ := s.toQuiesced_cleared reason
  exact ⟨hq, by rw [hsync]; rfl, by rw [hsync]; rfl⟩

theorem completeQuiesce_drained (s : State) : s.completeQuiesce.Drained :=
  (toQuiesced_drained s .hostRequest).congr (by simp [State.completeQuiesce]) (by simp [State.completeQuiesce])

/-- R104, R118: a start has nothing queued. -/
theorem drained_of_start {cause : StartCause} (h : EntersStart s cause t) : t.Drained :=
  ⟨h.sendQ, by rw [h.sync]; rfl, by rw [h.sync]; rfl⟩

theorem startKeepingOp (s : State) (cause : StartCause) : DrainedAway (s.startKeepingOp cause) :=
  of_drained (drained_of_start (s.startKeepingOp_enters cause).1)

theorem startCuttingOp (s : State) : DrainedAway s.startCuttingOp :=
  of_drained (drained_of_start s.startCuttingOp_enters.1)

theorem leaveStart (h : DrainedAway s) : DrainedAway s.leaveStart := by
  unfold State.leaveStart
  split_ifs with hl
  · have hs : s.Drained := h (by simp [Control.away, hl])
    dsimp only
    split_ifs
    · exact enterJoining rfl
    · exact of_drained (hs.congr (by simp) (by simp))
  · exact h

/-- R164: FROZEN is entered to return to QUIESCED from there alone, and the cut of a frame queues nothing. -/
theorem freeze (h : DrainedAway s) : DrainedAway s.freeze := by
  intro haway
  have hl : s.control.link = .quiesced := by
    rw [State.freeze_control] at haway
    cases hlink : s.control.link <;> simp [Control.away, hlink, LinkState.returnFrom] at haway ⊢
  have hcut := (h (by simp [Control.away, hl])).cutFrame
  obtain ⟨-, -, hq, hsync⟩ := s.freeze_blocks
  exact ⟨hq.trans hcut.sendQ, by rw [hsync]; exact hcut.wanted, by rw [hsync]; exact hcut.runActive⟩

theorem toFrozen (h : DrainedAway s) : DrainedAway s.toFrozen := by
  rw [State.toFrozen_eq]
  split_ifs
  · exact freeze (of_drained (completeQuiesce_drained s))
  · exact freeze h

theorem leaveFrozen (h : DrainedAway s) (hl : s.control.link = .frozen) : DrainedAway s.leaveFrozen := by
  simp only [State.leaveFrozen]
  split
  · rename_i hreturn
    exact of_drained ((h (by simp [Control.away, hl, hreturn])).congr (by simp) (by simp))
  · exact enterJoining rfl

/-! ### Requests -/

/-- A request keeps what is empty if its owner does. -/
theorem request (h : DrainedAway s) (code : Byte) (args : List Byte) (sized gated : Bool) {owner : State → State}
    (howner : ∀ t, DrainedAway t → DrainedAway (owner t)) : DrainedAway (s.request code args sized gated owner) := by
  have htaken : DrainedAway (s.taken code args) := h.congr rfl rfl rfl
  obtain ⟨p, hp, -⟩ | ⟨-, ⟨c, hc⟩ | ⟨-, ho⟩⟩ := s.request_cases code args sized gated owner
  · rw [hp]
    exact h.congr rfl rfl rfl
  · rw [hc]
    exact htaken.of_aside (.answer _ _ _)
  · rw [ho]
    exact howner _ htaken

/-- R8: a WRITE is accepted in ACTIVE alone. -/
theorem ownerWrite (h : DrainedAway s) (args : List Byte) : DrainedAway (State.ownerWrite args s) := by
  unfold State.ownerWrite
  split
  · exact h.of_aside (.answer _ _ _)
  · split
    · exact h.of_aside (.answer _ _ _)
    · rename_i hok
      exact of_onBus ((State.onBus_congr (by simp)).trans (s.onBus_iff.2 (.inr (s.writeCheck_ok hok).1)))

theorem ownerQuiesce (h : DrainedAway s) : DrainedAway s.ownerQuiesce := by
  unfold State.ownerQuiesce
  split
  · exact h.of_aside (.answer _ _ _)
  · exact of_drained (completeQuiesce_drained s)
  · split_ifs
    · exact h.congr rfl rfl rfl
    · exact of_drained (completeQuiesce_drained s)

theorem ownerResume (h : DrainedAway s) : DrainedAway s.ownerResume := by
  unfold State.ownerResume
  split_ifs
  · exact (enterJoining (s := s.move .joining .hostRequest) rfl).of_aside (.answer _ _ _)
  · exact h.of_aside (.answer _ _ _)
  · exact h.of_aside (.answer _ _ _)

/-! ### The write engine -/

theorem asideOrStarted (h : DrainedAway s) (ht : AsideOrStarted s t) : DrainedAway t := by
  obtain ha | ⟨u, hu, rfl⟩ := ht
  · exact h.of_aside ha
  · exact (h.of_aside hu).leaveStart

/-! ### Received PUBLISH frames, reports and the supply -/

theorem publishFrame (h : DrainedAway s) : Meets (execPublishFrame s) DrainedAway := by
  refine .next ?_
  split
  · rename_i hd
    have hcontrol {t : State} (ht : t.control = s.control) : DrainedAway t :=
      of_onBus ((State.onBus_congr ht).trans (State.Apart.atDecision_onBus hd))
    refine hcontrol ?_
    (repeat' split) <;> simp
  · exact h

theorem lateLossConfirmed (h : DrainedAway s) : Meets (execLateLossConfirmed s) DrainedAway := by
  refine .next ?_
  split
  · rename_i hd
    have hcontrol {t : State} (ht : t.control = s.control) : DrainedAway t :=
      of_onBus ((State.onBus_congr ht).trans (Bool.and_eq_true _ _ ▸ hd).1)
    refine hcontrol ?_
    (repeat' split) <;> simp
  · exact h

theorem duplicateId (h : DrainedAway s) : Meets (execDuplicateId s) DrainedAway := by
  refine .next ?_
  split_ifs
  · have hcleared := toQuiesced_drained (s.setReports { s.reports with duplicateId := false }) .duplicateId
    exact of_drained (hcleared.congr (by simp) (by simp))
  · exact h.congr rfl rfl rfl

theorem busStuck (h : DrainedAway s) : Meets (execBusStuck s) DrainedAway := by
  refine .next ?_
  split_ifs
  · exact of_not_away (by simp [State.toFaulted_control, Control.away])
  · exact h.congr rfl rfl rfl

theorem joinComplete (h : DrainedAway s) : Meets (execJoinComplete s) DrainedAway := by
  refine .next ?_
  split_ifs
  · exact of_onBus rfl
  · exact h.congr rfl rfl rfl

theorem quiesceComplete (h : DrainedAway s) : Meets (execQuiesceComplete s) DrainedAway := by
  refine .next ?_
  split_ifs
  · exact of_drained ((completeQuiesce_drained s).setReports _)
  · exact h.congr rfl rfl rfl

theorem pfailEdge (h : DrainedAway s) (asserted : Bool) : DrainedAway (s.pfailEdge asserted) := by
  unfold State.pfailEdge
  split_ifs
  · exact h
  · exact h.congr rfl rfl rfl

theorem supplyLow (h : DrainedAway s) (lasting : Bool) : Meets (execSupplyLow s lasting) DrainedAway := by
  have hpin : DrainedAway { s with pfailPin := true } := h.congr rfl rfl rfl
  have hlow : DrainedAway (State.takeSupplyLow { s with pfailPin := true }) := by
    unfold State.takeSupplyLow
    split
    · exact hpin.toFrozen
    · exact startCuttingOp _
  refine .next ?_
  split_ifs
  · exact h.pfailEdge true
  · exact hpin
  · split
    · exact h.congr rfl rfl rfl
    · exact h.congr rfl rfl rfl
    all_goals exact hlow

theorem supplyGood (h : DrainedAway s) (lasting : Bool) : Meets (execSupplyGood s lasting) DrainedAway := by
  have hpin : DrainedAway { s with pfailPin := false } := h.congr rfl rfl rfl
  refine .next ?_
  split_ifs with hn hg hl
  · exact h.pfailEdge false
  · exact hpin
  · exact hpin.leaveFrozen hl
  · exact h.congr rfl rfl rfl

/-! ### Steps -/

/-- R160: every command keeps the queues of a station in START or QUIESCED empty. -/
theorem exec_keeps (c : Instr) (s : State) (h : DrainedAway s) : Meets (exec c s) DrainedAway := by
  by_cases hcalm : (quietCommand c || asideCommand c) = true
  · obtain hquiet | haside := Bool.or_eq_true_iff.1 hcalm
    · cases haway : s.control.away with
      | true =>
        exact ((h haway).exec_quiet (State.not_onBus_of_away haway) c hquiet).mono fun t => of_drained
      | false => exact (exec_quiet c hquiet s).mono fun t ht => of_not_away (by rw [ht.control, haway])
    · exact (Aside.exec_aside c haside s).mono fun t => h.of_aside
  cases c
  case write args => exact .next (h.request _ _ _ _ fun t ht => ht.ownerWrite args)
  case quiesce args => exact .next (h.request _ _ _ _ fun t ht => ht.ownerQuiesce)
  case resume args => exact .next (h.request _ _ _ _ fun t ht => ht.ownerResume)
  case restart args => exact .next (h.request _ _ _ _ fun t _ => startKeepingOp t _)
  case publishFrame => exact h.publishFrame
  case lateLossConfirmed => exact h.lateLossConfirmed
  case duplicateId => exact h.duplicateId
  case busStuck => exact h.busStuck
  case busRecovered =>
    refine .next ?_
    split_ifs
    · exact enterJoining rfl
    · exact h.congr rfl rfl rfl
  case joinComplete => exact h.joinComplete
  case quiesceComplete => exact h.quiesceComplete
  case powerUp pfail => exact .next (startCuttingOp _)
  case resetAssert lasting =>
    refine .next ?_
    split
    · exact startKeepingOp _ _
    · split_ifs
      · exact h
      · exact h.congr rfl rfl rfl
  case startSequence =>
    refine .next ?_
    split_ifs with hstart
    · obtain ⟨hlink, -⟩ : s.control.link = .start ∧ s.startWaitEnded = true := by simpa using hstart
      have hs : s.Drained := h (by simp [Control.away, hlink])
      exact of_drained ⟨by simpa using hs.sendQ, hs.wanted, hs.runActive⟩
    · exact h
  case supplyLow lasting => exact h.supplyLow lasting
  case supplyGood lasting => exact h.supplyGood lasting
  case writeDone current good => exact (AsideOrStarted.writeDone current good s).mono fun t => h.asideOrStarted
  case writeLimit => exact (AsideOrStarted.writeLimit s).mono fun t => h.asideOrStarted
  all_goals exact absurd rfl hcalm

/-- A quantum moves the Sync Unit's timers, and claims nothing. -/
theorem advance (h : DrainedAway s) : DrainedAway s.advance := by
  intro haway
  obtain ⟨hq, hwanted, hrun⟩ := h haway
  exact ⟨hq, hwanted, hrun⟩

end DrainedAway

/-- Settles O8: every entry into START or QUIESCED clears the queues, FROZEN keeps them, and off the bus no claim is placed. -/
theorem quiescedQueuesStayEmpty : Obligations.QuiescedQueuesStayEmpty := by
  intro s t hs hstep
  rw [State.quiescedInv_iff] at hs ⊢
  exact (step_preserves (P := DrainedAway) (fun s rest h => h.congr rfl rfl rfl) (fun _ h => h.advance)
    DrainedAway.exec_keeps hs).of_eq hstep

end Sys2Proof.Machine
end

section
/-! SUPPORT, SETTLES O9. The agreement of the port, Station Control and the incarnation write, as time passes and over a step. -/

namespace Sys2Proof.Machine

/-- A quantum moves timers and the supply filter, none of which the agreement speaks of. -/
theorem PortAgrees.advance {s : State} (h : PortAgrees s) : PortAgrees s.advance :=
  h.congr rfl rfl rfl rfl rfl id

/-- Settles O9: every command keeps the agreement, and neither the queue nor a quantum bears on it. -/
theorem portAndLinkStateAgree : Obligations.PortAndLinkStateAgree := by
  intro s t hs hstep
  rw [State.portInv_iff] at hs ⊢
  exact (step_preserves (P := PortAgrees) (fun _ _ h => h.congr rfl rfl rfl rfl rfl id) (fun _ h => h.advance)
    exec_portAgrees hs).of_eq hstep

end Sys2Proof.Machine
end

section
/-! SUPPORT, SETTLES O17, O26. What a request meets before its owner: the port state, the framing check and the FROZEN gate. -/

namespace Sys2Proof.Machine

/-! ### Requests among the commands (Table 87) -/

/-- Table 87, R169: the byte count of the request is the size given for its command code. A code that is none has no size. -/
def wellSized : Instr → Bool
  | .read args | .nextTag args => args.length == 2
  | .watch args => args.length == 3
  | .configWrite args => args.length == 4
  | .write args => (parseWrite args).isSome
  | .status args | .peers args | .notice args | .quiesce args | .resume args | .configRead args | .wipe args
  | .restart args => args.isEmpty
  | _ => false

/-- R182: the requests that are not executed in FROZEN. -/
def frozenGated : Instr → Bool
  | .status _ | .restart _ => false
  | _ => true

/-- R169: the command is the transaction of a request: it shifts bytes in and is no FETCH. -/
structure IsRequest (c : Instr) : Prop where
  shiftsIn : (requestBytes c).isSome = true
  noFetch : ∀ n, c ≠ .fetch n
  wellFormed : c.wellFormed = true

theorem portCode_eq_isPortCode (code : Byte) : portCode code = isPortCode code := by
  simp [portCode, isPortCode]

/-- R169: every request goes through the same port, and only its size, its gate and its owner are its own. -/
theorem IsRequest.exec_eq {c : Instr} (h : IsRequest c) : ∃ code args owner, ∀ s : State,
    exec c s = .next (s.request code args (wellSized c) (frozenGated c) owner) := by
  obtain ⟨hshifts, hfetch, hformed⟩ := h
  cases c
  case fetch n => exact absurd rfl (hfetch n)
  case notACommandCode code args =>
    have hcode : portCode code = false := by simpa [portCode_eq_isPortCode, Instr.wellFormed] using hformed
    exact ⟨code, args, id, fun s => congrArg Host.Outcome.next (if_neg (by simp [hcode]))⟩
  case read | nextTag | write | watch | status | peers | notice | quiesce | resume | configRead | configWrite | wipe
    | restart => exact ⟨_, _, _, fun _ => rfl⟩
  all_goals exact absurd hshifts Bool.false_ne_true

theorem isRequest_notACommandCode {code : Byte} (hrange : 1 ≤ code.toNat → 13 < code.toNat) (hfetch : code ≠ 0x80#8)
    (args : List Byte) : IsRequest (.notACommandCode code args) where
  shiftsIn := rfl
  noFetch := nofun
  wellFormed := by
    simp only [Instr.wellFormed, isPortCode, Bool.not_eq_true', Bool.or_eq_false_iff, beq_eq_false_iff_ne,
      Bool.and_eq_false_imp, decide_eq_true_eq, decide_eq_false_iff_not]
    exact ⟨hfetch, fun h => by have := hrange h; omega⟩

/-- R169: a WRITE has the right size when it carries as many value bytes as its length byte says. -/
theorem parseWrite_isSome : ∀ args : List Byte,
    (parseWrite args).isSome = true ↔ args.length = 5 + (args.getD 4 0#8).toNat
  | t1 :: t0 :: c :: p :: n :: value => by
    have hlength : (t1 :: t0 :: c :: p :: n :: value).length = 5 + value.length := Nat.add_comm value.length 5
    rw [hlength]
    by_cases h : value.length = n.toNat <;> simp [parseWrite, h]
  | [] | [_] | [_, _] | [_, _, _] | [_, _, _, _] => by simp [parseWrite]

/-! ### The port state, the framing check and the FROZEN gate (Table 82, R182) -/

namespace IsRequest

variable {c : Instr} {s : State}

theorem dropped_working (h : IsRequest c) (hs : s.port.state = .working) :
    ∃ t, exec c s = .next t ∧ t.port.overrun = true ∧ t.port.state = .working ∧ t.port.response = s.port.response ∧
      t.port.notices = s.port.notices ∧ s.keepsAllBut t [.port] = true := by
  obtain ⟨code, args, owner, hexec⟩ := h.exec_eq
  rw [hexec, s.request_working _ _ _ _ _ hs]
  exact ⟨_, rfl, rfl, hs, rfl, rfl, s.setPort_keeps _⟩

theorem dropped_notReady (h : IsRequest c) (hs : s.port.state = .notReady) :
    ∃ t, exec c s = .next t ∧ t.port.overrun = s.port.overrun ∧ t.port.state = .notReady ∧
      t.port.response = s.port.response ∧ t.port.notices = s.port.notices ∧ s.keepsAllBut t [.port] = true := by
  obtain ⟨code, args, owner, hexec⟩ := h.exec_eq
  rw [hexec, s.request_notReady _ _ _ _ _ hs]
  exact ⟨_, rfl, rfl, hs, rfl, rfl, s.setPort_keeps _⟩

/-- R169: the framing check comes first, so a request of the wrong size is refused in FROZEN too. -/
theorem answered_badArgument (h : IsRequest c) (hs : s.takesRequest = true) (hsize : wellSized c = false) :
    ∃ t, exec c s = .next t ∧ s.answered t .badArgument [] = true ∧ s.keepsAllBut t [.port] = true := by
  obtain ⟨code, args, owner, hexec⟩ := h.exec_eq
  have hport : s.port.state = .idle ∨ s.port.state = .ready := by simpa [State.takesRequest] using hs
  rw [hexec, s.request_taken _ _ _ _ _ hport, hsize]
  exact ⟨_, rfl, s.taken_answer _ _ _ _⟩

theorem answered_frozen (h : IsRequest c) (hs : s.takesRequest = true) (hlink : s.control.link = .frozen)
    (hsize : wellSized c = true) (hgated : frozenGated c = true) :
    ∃ t, exec c s = .next t ∧ s.answered t .frozen [] = true ∧ s.keepsAllBut t [.port] = true := by
  obtain ⟨code, args, owner, hexec⟩ := h.exec_eq
  have hport : s.port.state = .idle ∨ s.port.state = .ready := by simpa [State.takesRequest] using hs
  rw [hexec, s.request_taken _ _ _ _ _ hport, hsize, hgated, hlink]
  exact ⟨_, rfl, s.taken_answer _ _ _ _⟩

end IsRequest

/-- Settles O17: the port state drops a request before its size is looked at, and its size is looked at before the gate. -/
theorem requestsPassThePortState : Obligations.RequestsPassThePortState := by
  refine ⟨fun s c bytes hbytes hfetch hformed => ?_, fun s hs => ⟨fun code args hrange hcode => ?_, fun args c hc => ?_⟩,
    fun s b1 b2 b3 b4 w c hs hlink hc => ?_⟩
  · have h : IsRequest c := ⟨by simp [hbytes], hfetch, hformed⟩
    exact ⟨h.dropped_working, h.dropped_notReady⟩
  · exact (isRequest_notACommandCode hrange hcode args).answered_badArgument hs rfl
  · suffices h : IsRequest c ∧ wellSized c = false from h.1.answered_badArgument hs h.2
    obtain ⟨rfl, hsize⟩ | ⟨rfl, hsize⟩ | ⟨rfl, hsize⟩ | ⟨rfl, hsize⟩ | ⟨rfl, hsize⟩ | ⟨hmem, hargs⟩ := hc
    case inr.inr.inr.inr.inl =>
      exact ⟨⟨rfl, nofun, rfl⟩, Bool.eq_false_iff.2 (mt (parseWrite_isSome args).1 hsize)⟩
    case inr.inr.inr.inr.inr =>
      have hsize : args.isEmpty = false := by simpa using hargs
      simp only [List.mem_cons, List.not_mem_nil, or_false] at hmem
      obtain rfl | rfl | rfl | rfl | rfl | rfl | rfl | rfl := hmem <;> exact ⟨⟨rfl, nofun, rfl⟩, hsize⟩
    all_goals exact ⟨⟨rfl, nofun, rfl⟩, beq_eq_false_iff_ne.2 hsize⟩
  · suffices h : IsRequest c ∧ wellSized c = true ∧ frozenGated c = true from h.1.answered_frozen hs hlink h.2.1 h.2.2
    obtain hmem | ⟨rfl, hsize⟩ := hc
    · simp only [List.mem_cons, List.not_mem_nil, or_false] at hmem
      obtain rfl | rfl | rfl | rfl | rfl | rfl | rfl | rfl | rfl | rfl := hmem <;> exact ⟨⟨rfl, nofun, rfl⟩, rfl, rfl⟩
    · exact ⟨⟨rfl, nofun, rfl⟩, (parseWrite_isSome w).2 hsize, rfl⟩

/-! ### A request that FROZEN does not gate (R182) -/

/-- R182: outside the gate a request of the right size, taken in any link state, goes to its owner. -/
theorem State.request_ungated (s : State) (code : Byte) (args : List Byte) (owner : State → State)
    (h : s.takesRequest = true) : s.request code args true false owner = owner (s.taken code args) :=
  s.request_taken code args true false owner (by simpa [State.takesRequest] using h)

/-- Settles O26: a RESTART that is taken enters START; in WORKING it is dropped as every request is. -/
theorem restartMovesToStart : Obligations.RestartMovesToStart := by
  refine fun s => ⟨fun htakes => ?_, fun hworking => ?_⟩
  · obtain ⟨hstart, -⟩ := (s.taken 0x0D#8 []).startKeepingOp_enters .command
    obtain ⟨p, hport⟩ := hstart.port
    obtain ⟨hstate, -, -, -, hresponse⟩ := p.atStart_notReady
    refine ⟨_, congrArg Host.Outcome.next (s.request_ungated 0x0D#8 [] _ htakes), ?_⟩
    rw [hstart.control, hport]
    exact ⟨rfl, rfl, hresponse, hstate⟩
  · have h : IsRequest (.restart []) := ⟨rfl, nofun, rfl⟩
    obtain ⟨t, hexec, hoverrun, hstate, -, -, hkeeps⟩ := h.dropped_working hworking
    exact ⟨t, hexec, hoverrun, hstate, hkeeps⟩

end Sys2Proof.Machine
end

section
/-! SUPPORT, SETTLES O22, O23. The bytes of STATUS, PEERS, CONFIG READ and NOTICE (Tables 89 and 90). -/

namespace Sys2Proof.Machine

/-! ### Layouts (R176, Tables 89 and 90) -/

/-- Tables 89 and 90: a flag in the bit of its weight. -/
theorem flagByte_shiftLeft (b : Bool) (n : Nat) : flagByte b <<< n = if b then 1#8 <<< n else 0#8 := by
  cases b <;> simp [flagByte]

/-- R176: the two bytes of a tag are its quotient and remainder by 256. -/
theorem tagBytes_divMod (tag : Tag) :
    tagBytes tag = [BitVec.ofNat 8 (tag.toNat / 256), BitVec.ofNat 8 (tag.toNat % 256)] := by
  refine tagBytes_eq _ _ _ ?_
  have := tag.isLt
  simp only [BitVec.toNat_ofNat]
  omega

theorem PeerEntry.bytes_eq (p : PeerEntry) : p.bytes =
    [p.station.setWidth 8, (if p.silent then 1#8 else 0#8) ||| (if p.joining then 2#8 else 0#8), p.incarnation, p.period,
      p.count, p.summary.extractLsb' 8 8, p.summary.extractLsb' 0 8] := by
  rw [PeerEntry.bytes, flagByte_shiftLeft]
  rfl

theorem rosterData_eq (roster : List PeerEntry) : rosterData roster =
    BitVec.ofNat 8 roster.length :: roster.flatMap fun p =>
      [p.station.setWidth 8, (if p.silent then 1#8 else 0#8) ||| (if p.joining then 2#8 else 0#8), p.incarnation, p.period,
        p.count, p.summary.extractLsb' 8 8, p.summary.extractLsb' 0 8] := by
  rw [rosterData, funext PeerEntry.bytes_eq]

theorem Notice.bytes_eq (n : Notice) : n.bytes =
    [n.kind.byte,
      (if n.tag.isSome then 1#8 else 0#8) ||| (if n.station.isSome then 2#8 else 0#8) |||
        (if n.pair.isSome then 4#8 else 0#8) ||| (if n.reason.isSome then 8#8 else 0#8),
      BitVec.ofNat 8 ((n.tag.getD 0#12).toNat / 256), BitVec.ofNat 8 ((n.tag.getD 0#12).toNat % 256),
      (n.station.getD 0#4).setWidth 8,
      ((n.pair.map (·.version)).getD 0#16).extractLsb' 8 8, ((n.pair.map (·.version)).getD 0#16).extractLsb' 0 8,
      ((n.pair.map (·.origin)).getD 0#4).setWidth 8, (n.reason.map Reason.byte).getD 0#8] := by
  rw [Notice.bytes, tagBytes_divMod, flagByte_shiftLeft, flagByte_shiftLeft, flagByte_shiftLeft]
  rfl

theorem ConfigArea.readData_erased : ConfigArea.erased.readData = [0#8, 0#8, 0#8, 0#8, 0#8] := rfl

/-- R171, R155: an area that holds its fields reads them back, valid by its check and its period. -/
theorem ConfigArea.readData_holds (f : ConfigFields) (check : BitVec 16) : (ConfigArea.holds f check).readData =
    [if check = f.code ∧ f.period ≠ 0#8 then 1#8 else 0#8, f.station.setWidth 8, f.rate.setWidth 8, f.period,
      if f.action = .restart then 1#8 else 0#8] := by
  have hvalid : (ConfigArea.holds f check).valid?.isSome = decide (check = f.code ∧ f.period ≠ 0#8) := by
    by_cases h : check = f.code ∧ f.period ≠ 0#8 <;> simp [ConfigArea.valid?, h]
  rw [ConfigArea.readData, hvalid]
  cases h : f.action <;> simp [ConfigArea.fields, flagByte, h]

/-- R171: a torn area reads its fields back and is not valid. -/
theorem ConfigArea.readData_torn (f : ConfigFields) : (ConfigArea.torn f).readData =
    [0#8, f.station.setWidth 8, f.rate.setWidth 8, f.period, if f.action = .restart then 1#8 else 0#8] := by
  cases h : f.action <;> simp [ConfigArea.readData, ConfigArea.valid?, ConfigArea.fields, flagByte, h]

/-! ### The answers (R171, R117, R180) -/

/-- A request taken has put nothing into the figures of STATUS. -/
theorem State.taken_statusData (s : State) (code : Byte) (args : List Byte) :
    (s.taken code args).statusData = s.statusData := rfl

/-- Settles O22: each of the three is answered from its figures, and an answer leaves all blocks but the port. -/
theorem statusPeersAndConfigReadAnswer : Obligations.StatusPeersAndConfigReadAnswer := by
  refine ⟨fun s hs => ?_, fun s hs hl => ⟨?_, ?_⟩⟩
  · obtain ⟨hanswered, hkeeps⟩ := s.taken_answer 0x05#8 [] .ok (s.taken 0x05#8 []).statusData
    refine ⟨_, congrArg Host.Outcome.next (s.request_ungated 0x05#8 [] _ hs), hkeeps, ?_⟩
    rw [s.taken_statusData] at hanswered ⊢
    exact hanswered
  · obtain ⟨hanswered, hkeeps⟩ := s.taken_answer 0x06#8 [] .ok (rosterData s.sync.roster)
    refine ⟨_, congrArg Host.Outcome.next (s.request_owner 0x06#8 [] true _ hs hl), hkeeps, ?_⟩
    rw [← rosterData_eq]
    exact hanswered
  · obtain ⟨hanswered, hkeeps⟩ := s.taken_answer 0x0A#8 [] .ok s.store.array.config.readData
    refine ⟨_, congrArg Host.Outcome.next (s.request_owner 0x0A#8 [] true _ hs hl), hkeeps, fun harea => ?_,
      fun f check harea => ?_, fun f harea => ?_⟩
    · rw [← ConfigArea.readData_erased, ← harea]
      exact hanswered
    · rw [← ConfigArea.readData_holds, ← harea]
      exact hanswered
    · rw [← ConfigArea.readData_torn, ← harea]
      exact hanswered

theorem State.ownerNotice_empty {s : State} (h : s.port.notices = []) : s.ownerNotice = s.answer .notFound [] := by
  simp [State.ownerNotice, h]

theorem State.ownerNotice_oldest {s : State} {n : Notice} {rest : List Notice} (h : s.port.notices = n :: rest) :
    s.ownerNotice =
      (s.setPort (s.port.setNotices rest)).answer .ok (BitVec.ofNat 8 rest.length :: n.bytes) := by
  simp [State.ownerNotice, h]

/-- Settles O23: the oldest notice leaves the queue for the answer, with ATTN behind it. -/
theorem noticeRemovesTheOldest : Obligations.NoticeRemovesTheOldest := by
  intro s hs hl
  refine ⟨_, congrArg Host.Outcome.next (s.request_owner 0x07#8 [] true _ hs hl), ?_, fun hnone => ?_,
    fun n rest hnotices => ?_⟩
  · simp [State.keepsAllBut, Block.all, Block.agrees]
  · rw [State.ownerNotice_empty (by simpa using hnone)]
    exact s.answered_taken _ _ _ _
  · rw [State.ownerNotice_oldest (s := s.taken 0x07#8 []) (by simpa using hnotices), ← Notice.bytes_eq]
    refine ⟨by simp [HostPort.setNotices], by simp [HostPort.setNotices], ?_⟩
    rw [State.answeredWith, State.answer_working _ _ _ (by simp [HostPort.setNotices])]
    simp [HostPort.setNotices]

end Sys2Proof.Machine
end

section
/-! SUPPORT, SETTLES O1, O2. The two kinds of step: the front command's, and that of an empty queue. -/

namespace Sys2Proof.Machine

/-! ### Which kind a step is -/

theorem step_of_front {s : State} {c : Instr} {rest : List Instr} (h : s.pending = c :: rest) :
    step s = exec c { s with pending := rest } := by
  simp only [step, h]

theorem step_of_idle {s : State} (h : s.pending = []) : step s = s.tick := by
  simp only [step, h]

/-- Settles O1: the queue's rest, put back in place of the longer queue, gives the state itself. -/
theorem stepTakesFrontCommand : Obligations.StepTakesFrontCommand := by
  intro c s
  exact step_of_front (s := { s with pending := c :: s.pending }) rfl

/-! ### A quantum -/

theorem OnTurn.trans {s t u : State} (hst : OnTurn s t) (htu : OnTurn t u) : OnTurn s u :=
  ⟨htu.pending.trans hst.pending, htu.now.trans hst.now⟩

/-- What a quantum brings due is taken at the quantum's end: no event puts a command in the queue or moves the clock again. -/
theorem State.tick_onTurn (s : State) : Meets s.tick (OnTurn s.advance) := by
  have hexec (c : Instr) (t : State) (ht : OnTurn s.advance t) : Meets (exec c t) (OnTurn s.advance) :=
    (exec_onTurn c t).mono fun _ hturn => ht.trans hturn
  unfold State.tick
  exact List.foldlRecOn (motive := fun r => Meets r (OnTurn s.advance)) _ takeDue (.next (OnTurn.refl s.advance))
    fun _ hr test _ => takeDue_preserves hexec hr test

/-- Settles O2: the passing of the quantum moves the clock once, and what comes due after it leaves clock and queue. -/
theorem idleStepAdvancesTheClock : Obligations.IdleStepAdvancesTheClock := by
  intro s hidle
  obtain ⟨t, ht, hturn⟩ := s.tick_onTurn
  have hpending : s.advance.pending = s.pending := rfl
  have hnow : s.advance.now = s.now + 1 := rfl
  exact ⟨t, (step_of_idle hidle).trans ht, (hturn.pending.trans hpending).trans hidle, hturn.now.trans hnow⟩

end Sys2Proof.Machine
end
